-- ==== Sys2Proof/Word.lean ====
section
/-! DEFINITION. The word types of the RISC32 core: rules R10 and R11 (32-bit registers and addresses),
R49 (16-bit Set-B words) and R80 (8-bit bytes at the memory port). -/

namespace Sys2Proof

/-- A register slot or an address: 32 bits (R10, R11). -/
abbrev Word := BitVec 32

/-- A Set-B instruction word: 16 bits (R121). -/
abbrev Half := BitVec 16

/-- The unit of memory: 8 bits (R80, R81). -/
abbrev Byte := BitVec 8

end Sys2Proof
end

