-- ==== Sys2Proof/Syntax.lean ====
section
/-! DEFINITION. The instructions of both sets: one constructor of `Instr` for each mnemonic of the opcode table
(STRH (reg) and LDRH (reg), which name a row of each set, have one constructor for each set).
A constructor holds the fields the spec reads; should-be-zero and should-be-one fields are not decoded (R138) and do
not stand here (assumption log 19).  The words without a meaning, and the undefined words of Set-B, keep their word. -/

namespace Sys2Proof

/-- A 4-bit register field: R0-R15 (R31, R35). -/
abbrev Reg := Fin 16

/-- A 3-bit register field of Set-B: R0-R7 (R370). -/
abbrev LowReg := Fin 8

/-- The condition field (R180), in the order of its codes 0000-1111. -/
inductive Cond
  | eq | ne | cs | cc | mi | pl | vs | vc | hi | ls | ge | lt | gt | le | al | nv
  deriving DecidableEq, Repr

/-- The shift type of operand 2 (R125, R190). -/
inductive ShiftType
  | lsl | lsr | asr | ror
  deriving DecidableEq, Repr

/-- The status word MRS and MSR name: bit 22, R (R126). -/
inductive Psr
  | cpsr | spsr
  deriving DecidableEq, Repr

/-- The sixteen data-processing operations, in the order of their opcodes 0000-1111 (R124). -/
inductive DpOp
  | and | eor | sub | rsb | add | adc | sbc | rsc | tst | teq | cmp | cmn | orr | mov | bic | mvn
  deriving DecidableEq, Repr

/-- An instruction.  Fields carry the spec's names: `sf` is S (bit 20), `wb` is W (write-back), `up` is U, `pre` is P,
`sbit` is the S bit of a block transfer, `rotate`/`imm8` a rotated immediate (R125), `amount`/`sh` an encoded shift
(R125), `rlist` a register list (R132, R154, R155). -/
inductive Instr
  /-- Set-A AND (imm): R224. -/
  | andImm (cond : Cond) (sf : Bool) (rn : Reg) (rd : Reg) (rotate : BitVec 4) (imm8 : BitVec 8)
  /-- Set-A AND (reg-imm-shift): R224. -/
  | andRegImm (cond : Cond) (sf : Bool) (rn : Reg) (rd : Reg) (amount : BitVec 5) (sh : ShiftType) (rm : Reg)
  /-- Set-A AND (reg-reg-shift): R224. -/
  | andRegReg (cond : Cond) (sf : Bool) (rn : Reg) (rd : Reg) (rs : Reg) (sh : ShiftType) (rm : Reg)
  /-- Set-A EOR (imm): R225. -/
  | eorImm (cond : Cond) (sf : Bool) (rn : Reg) (rd : Reg) (rotate : BitVec 4) (imm8 : BitVec 8)
  /-- Set-A EOR (reg-imm-shift): R225. -/
  | eorRegImm (cond : Cond) (sf : Bool) (rn : Reg) (rd : Reg) (amount : BitVec 5) (sh : ShiftType) (rm : Reg)
  /-- Set-A EOR (reg-reg-shift): R225. -/
  | eorRegReg (cond : Cond) (sf : Bool) (rn : Reg) (rd : Reg) (rs : Reg) (sh : ShiftType) (rm : Reg)
  /-- Set-A SUB (imm): R226. -/
  | subImm (cond : Cond) (sf : Bool) (rn : Reg) (rd : Reg) (rotate : BitVec 4) (imm8 : BitVec 8)
  /-- Set-A SUB (reg-imm-shift): R226. -/
  | subRegImm (cond : Cond) (sf : Bool) (rn : Reg) (rd : Reg) (amount : BitVec 5) (sh : ShiftType) (rm : Reg)
  /-- Set-A SUB (reg-reg-shift): R226. -/
  | subRegReg (cond : Cond) (sf : Bool) (rn : Reg) (rd : Reg) (rs : Reg) (sh : ShiftType) (rm : Reg)
  /-- Set-A RSB (imm): R227. -/
  | rsbImm (cond : Cond) (sf : Bool) (rn : Reg) (rd : Reg) (rotate : BitVec 4) (imm8 : BitVec 8)
  /-- Set-A RSB (reg-imm-shift): R227. -/
  | rsbRegImm (cond : Cond) (sf : Bool) (rn : Reg) (rd : Reg) (amount : BitVec 5) (sh : ShiftType) (rm : Reg)
  /-- Set-A RSB (reg-reg-shift): R227. -/
  | rsbRegReg (cond : Cond) (sf : Bool) (rn : Reg) (rd : Reg) (rs : Reg) (sh : ShiftType) (rm : Reg)
  /-- Set-A ADD (imm): R228. -/
  | addImm (cond : Cond) (sf : Bool) (rn : Reg) (rd : Reg) (rotate : BitVec 4) (imm8 : BitVec 8)
  /-- Set-A ADD (reg-imm-shift): R228. -/
  | addRegImm (cond : Cond) (sf : Bool) (rn : Reg) (rd : Reg) (amount : BitVec 5) (sh : ShiftType) (rm : Reg)
  /-- Set-A ADD (reg-reg-shift): R228. -/
  | addRegReg (cond : Cond) (sf : Bool) (rn : Reg) (rd : Reg) (rs : Reg) (sh : ShiftType) (rm : Reg)
  /-- Set-A ADC (imm): R229. -/
  | adcImm (cond : Cond) (sf : Bool) (rn : Reg) (rd : Reg) (rotate : BitVec 4) (imm8 : BitVec 8)
  /-- Set-A ADC (reg-imm-shift): R229. -/
  | adcRegImm (cond : Cond) (sf : Bool) (rn : Reg) (rd : Reg) (amount : BitVec 5) (sh : ShiftType) (rm : Reg)
  /-- Set-A ADC (reg-reg-shift): R229. -/
  | adcRegReg (cond : Cond) (sf : Bool) (rn : Reg) (rd : Reg) (rs : Reg) (sh : ShiftType) (rm : Reg)
  /-- Set-A SBC (imm): R230. -/
  | sbcImm (cond : Cond) (sf : Bool) (rn : Reg) (rd : Reg) (rotate : BitVec 4) (imm8 : BitVec 8)
  /-- Set-A SBC (reg-imm-shift): R230. -/
  | sbcRegImm (cond : Cond) (sf : Bool) (rn : Reg) (rd : Reg) (amount : BitVec 5) (sh : ShiftType) (rm : Reg)
  /-- Set-A SBC (reg-reg-shift): R230. -/
  | sbcRegReg (cond : Cond) (sf : Bool) (rn : Reg) (rd : Reg) (rs : Reg) (sh : ShiftType) (rm : Reg)
  /-- Set-A RSC (imm): R231. -/
  | rscImm (cond : Cond) (sf : Bool) (rn : Reg) (rd : Reg) (rotate : BitVec 4) (imm8 : BitVec 8)
  /-- Set-A RSC (reg-imm-shift): R231. -/
  | rscRegImm (cond : Cond) (sf : Bool) (rn : Reg) (rd : Reg) (amount : BitVec 5) (sh : ShiftType) (rm : Reg)
  /-- Set-A RSC (reg-reg-shift): R231. -/
  | rscRegReg (cond : Cond) (sf : Bool) (rn : Reg) (rd : Reg) (rs : Reg) (sh : ShiftType) (rm : Reg)
  /-- Set-A TST (imm): R232. -/
  | tstImm (cond : Cond) (rn : Reg) (rotate : BitVec 4) (imm8 : BitVec 8)
  /-- Set-A TST (reg-imm-shift): R232. -/
  | tstRegImm (cond : Cond) (rn : Reg) (amount : BitVec 5) (sh : ShiftType) (rm : Reg)
  /-- Set-A TST (reg-reg-shift): R232. -/
  | tstRegReg (cond : Cond) (rn : Reg) (rs : Reg) (sh : ShiftType) (rm : Reg)
  /-- Set-A TEQ (imm): R233. -/
  | teqImm (cond : Cond) (rn : Reg) (rotate : BitVec 4) (imm8 : BitVec 8)
  /-- Set-A TEQ (reg-imm-shift): R233. -/
  | teqRegImm (cond : Cond) (rn : Reg) (amount : BitVec 5) (sh : ShiftType) (rm : Reg)
  /-- Set-A TEQ (reg-reg-shift): R233. -/
  | teqRegReg (cond : Cond) (rn : Reg) (rs : Reg) (sh : ShiftType) (rm : Reg)
  /-- Set-A CMP (imm): R234. -/
  | cmpImm (cond : Cond) (rn : Reg) (rotate : BitVec 4) (imm8 : BitVec 8)
  /-- Set-A CMP (reg-imm-shift): R234. -/
  | cmpRegImm (cond : Cond) (rn : Reg) (amount : BitVec 5) (sh : ShiftType) (rm : Reg)
  /-- Set-A CMP (reg-reg-shift): R234. -/
  | cmpRegReg (cond : Cond) (rn : Reg) (rs : Reg) (sh : ShiftType) (rm : Reg)
  /-- Set-A CMN (imm): R235. -/
  | cmnImm (cond : Cond) (rn : Reg) (rotate : BitVec 4) (imm8 : BitVec 8)
  /-- Set-A CMN (reg-imm-shift): R235. -/
  | cmnRegImm (cond : Cond) (rn : Reg) (amount : BitVec 5) (sh : ShiftType) (rm : Reg)
  /-- Set-A CMN (reg-reg-shift): R235. -/
  | cmnRegReg (cond : Cond) (rn : Reg) (rs : Reg) (sh : ShiftType) (rm : Reg)
  /-- Set-A ORR (imm): R236. -/
  | orrImm (cond : Cond) (sf : Bool) (rn : Reg) (rd : Reg) (rotate : BitVec 4) (imm8 : BitVec 8)
  /-- Set-A ORR (reg-imm-shift): R236. -/
  | orrRegImm (cond : Cond) (sf : Bool) (rn : Reg) (rd : Reg) (amount : BitVec 5) (sh : ShiftType) (rm : Reg)
  /-- Set-A ORR (reg-reg-shift): R236. -/
  | orrRegReg (cond : Cond) (sf : Bool) (rn : Reg) (rd : Reg) (rs : Reg) (sh : ShiftType) (rm : Reg)
  /-- Set-A MOV (imm): R237. -/
  | movImm (cond : Cond) (sf : Bool) (rd : Reg) (rotate : BitVec 4) (imm8 : BitVec 8)
  /-- Set-A MOV (reg-imm-shift): R237. -/
  | movRegImm (cond : Cond) (sf : Bool) (rd : Reg) (amount : BitVec 5) (sh : ShiftType) (rm : Reg)
  /-- Set-A MOV (reg-reg-shift): R237. -/
  | movRegReg (cond : Cond) (sf : Bool) (rd : Reg) (rs : Reg) (sh : ShiftType) (rm : Reg)
  /-- Set-A BIC (imm): R238. -/
  | bicImm (cond : Cond) (sf : Bool) (rn : Reg) (rd : Reg) (rotate : BitVec 4) (imm8 : BitVec 8)
  /-- Set-A BIC (reg-imm-shift): R238. -/
  | bicRegImm (cond : Cond) (sf : Bool) (rn : Reg) (rd : Reg) (amount : BitVec 5) (sh : ShiftType) (rm : Reg)
  /-- Set-A BIC (reg-reg-shift): R238. -/
  | bicRegReg (cond : Cond) (sf : Bool) (rn : Reg) (rd : Reg) (rs : Reg) (sh : ShiftType) (rm : Reg)
  /-- Set-A MVN (imm): R239. -/
  | mvnImm (cond : Cond) (sf : Bool) (rd : Reg) (rotate : BitVec 4) (imm8 : BitVec 8)
  /-- Set-A MVN (reg-imm-shift): R239. -/
  | mvnRegImm (cond : Cond) (sf : Bool) (rd : Reg) (amount : BitVec 5) (sh : ShiftType) (rm : Reg)
  /-- Set-A MVN (reg-reg-shift): R239. -/
  | mvnRegReg (cond : Cond) (sf : Bool) (rd : Reg) (rs : Reg) (sh : ShiftType) (rm : Reg)
  /-- Set-A MRS: R240. -/
  | mrs (cond : Cond) (psr : Psr) (rd : Reg)
  /-- Set-A MSR (reg): R243. -/
  | msrReg (cond : Cond) (psr : Psr) (mask : BitVec 4) (rm : Reg)
  /-- Set-A MSR (imm): R244. -/
  | msrImm (cond : Cond) (psr : Psr) (mask : BitVec 4) (rotate : BitVec 4) (imm8 : BitVec 8)
  /-- Set-A MUL: R271. -/
  | mul (cond : Cond) (sf : Bool) (rd : Reg) (rs : Reg) (rm : Reg)
  /-- Set-A MLA: R272. -/
  | mla (cond : Cond) (sf : Bool) (rd : Reg) (rn : Reg) (rs : Reg) (rm : Reg)
  /-- Set-A UMULL: R273. -/
  | umull (cond : Cond) (sf : Bool) (rdHi : Reg) (rdLo : Reg) (rs : Reg) (rm : Reg)
  /-- Set-A UMLAL: R274. -/
  | umlal (cond : Cond) (sf : Bool) (rdHi : Reg) (rdLo : Reg) (rs : Reg) (rm : Reg)
  /-- Set-A SMULL: R275. -/
  | smull (cond : Cond) (sf : Bool) (rdHi : Reg) (rdLo : Reg) (rs : Reg) (rm : Reg)
  /-- Set-A SMLAL: R276. -/
  | smlal (cond : Cond) (sf : Bool) (rdHi : Reg) (rdLo : Reg) (rs : Reg) (rm : Reg)
  /-- Set-A LDR (imm, pre): R294. -/
  | ldrImmPre (cond : Cond) (up : Bool) (wb : Bool) (rn : Reg) (rd : Reg) (offset : BitVec 12)
  /-- Set-A LDR (imm, post): R294. -/
  | ldrImmPost (cond : Cond) (up : Bool) (rn : Reg) (rd : Reg) (offset : BitVec 12)
  /-- Set-A LDR (reg, pre): R294. -/
  | ldrRegPre (cond : Cond) (up : Bool) (wb : Bool) (rn : Reg) (rd : Reg) (amount : BitVec 5) (sh : ShiftType) (rm : Reg)
  /-- Set-A LDR (reg, post): R294. -/
  | ldrRegPost (cond : Cond) (up : Bool) (rn : Reg) (rd : Reg) (amount : BitVec 5) (sh : ShiftType) (rm : Reg)
  /-- Set-A STR (imm, pre): R295. -/
  | strImmPre (cond : Cond) (up : Bool) (wb : Bool) (rn : Reg) (rd : Reg) (offset : BitVec 12)
  /-- Set-A STR (imm, post): R295. -/
  | strImmPost (cond : Cond) (up : Bool) (rn : Reg) (rd : Reg) (offset : BitVec 12)
  /-- Set-A STR (reg, pre): R295. -/
  | strRegPre (cond : Cond) (up : Bool) (wb : Bool) (rn : Reg) (rd : Reg) (amount : BitVec 5) (sh : ShiftType) (rm : Reg)
  /-- Set-A STR (reg, post): R295. -/
  | strRegPost (cond : Cond) (up : Bool) (rn : Reg) (rd : Reg) (amount : BitVec 5) (sh : ShiftType) (rm : Reg)
  /-- Set-A LDRB (imm, pre): R296. -/
  | ldrbImmPre (cond : Cond) (up : Bool) (wb : Bool) (rn : Reg) (rd : Reg) (offset : BitVec 12)
  /-- Set-A LDRB (imm, post): R296. -/
  | ldrbImmPost (cond : Cond) (up : Bool) (rn : Reg) (rd : Reg) (offset : BitVec 12)
  /-- Set-A LDRB (reg, pre): R296. -/
  | ldrbRegPre (cond : Cond) (up : Bool) (wb : Bool) (rn : Reg) (rd : Reg) (amount : BitVec 5) (sh : ShiftType) (rm : Reg)
  /-- Set-A LDRB (reg, post): R296. -/
  | ldrbRegPost (cond : Cond) (up : Bool) (rn : Reg) (rd : Reg) (amount : BitVec 5) (sh : ShiftType) (rm : Reg)
  /-- Set-A STRB (imm, pre): R297. -/
  | strbImmPre (cond : Cond) (up : Bool) (wb : Bool) (rn : Reg) (rd : Reg) (offset : BitVec 12)
  /-- Set-A STRB (imm, post): R297. -/
  | strbImmPost (cond : Cond) (up : Bool) (rn : Reg) (rd : Reg) (offset : BitVec 12)
  /-- Set-A STRB (reg, pre): R297. -/
  | strbRegPre (cond : Cond) (up : Bool) (wb : Bool) (rn : Reg) (rd : Reg) (amount : BitVec 5) (sh : ShiftType) (rm : Reg)
  /-- Set-A STRB (reg, post): R297. -/
  | strbRegPost (cond : Cond) (up : Bool) (rn : Reg) (rd : Reg) (amount : BitVec 5) (sh : ShiftType) (rm : Reg)
  /-- Set-A LDRT (imm): R298. -/
  | ldrtImm (cond : Cond) (up : Bool) (rn : Reg) (rd : Reg) (offset : BitVec 12)
  /-- Set-A LDRT (reg): R298. -/
  | ldrtReg (cond : Cond) (up : Bool) (rn : Reg) (rd : Reg) (amount : BitVec 5) (sh : ShiftType) (rm : Reg)
  /-- Set-A STRT (imm): R299. -/
  | strtImm (cond : Cond) (up : Bool) (rn : Reg) (rd : Reg) (offset : BitVec 12)
  /-- Set-A STRT (reg): R299. -/
  | strtReg (cond : Cond) (up : Bool) (rn : Reg) (rd : Reg) (amount : BitVec 5) (sh : ShiftType) (rm : Reg)
  /-- Set-A LDRBT (imm): R300. -/
  | ldrbtImm (cond : Cond) (up : Bool) (rn : Reg) (rd : Reg) (offset : BitVec 12)
  /-- Set-A LDRBT (reg): R300. -/
  | ldrbtReg (cond : Cond) (up : Bool) (rn : Reg) (rd : Reg) (amount : BitVec 5) (sh : ShiftType) (rm : Reg)
  /-- Set-A STRBT (imm): R301. -/
  | strbtImm (cond : Cond) (up : Bool) (rn : Reg) (rd : Reg) (offset : BitVec 12)
  /-- Set-A STRBT (reg): R301. -/
  | strbtReg (cond : Cond) (up : Bool) (rn : Reg) (rd : Reg) (amount : BitVec 5) (sh : ShiftType) (rm : Reg)
  /-- Set-A STRH (imm): R303. -/
  | strhImm (cond : Cond) (pre : Bool) (up : Bool) (wb : Bool) (rn : Reg) (rd : Reg) (offset : BitVec 8)
  /-- Set-A STRH (reg): R303. -/
  | strhReg (cond : Cond) (pre : Bool) (up : Bool) (wb : Bool) (rn : Reg) (rd : Reg) (rm : Reg)
  /-- Set-A LDRH (imm): R304. -/
  | ldrhImm (cond : Cond) (pre : Bool) (up : Bool) (wb : Bool) (rn : Reg) (rd : Reg) (offset : BitVec 8)
  /-- Set-A LDRH (reg): R304. -/
  | ldrhReg (cond : Cond) (pre : Bool) (up : Bool) (wb : Bool) (rn : Reg) (rd : Reg) (rm : Reg)
  /-- Set-A LDRSB (imm): R305. -/
  | ldrsbImm (cond : Cond) (pre : Bool) (up : Bool) (wb : Bool) (rn : Reg) (rd : Reg) (offset : BitVec 8)
  /-- Set-A LDRSB (reg): R305. -/
  | ldrsbReg (cond : Cond) (pre : Bool) (up : Bool) (wb : Bool) (rn : Reg) (rd : Reg) (rm : Reg)
  /-- Set-A LDRSH (imm): R306. -/
  | ldrshImm (cond : Cond) (pre : Bool) (up : Bool) (wb : Bool) (rn : Reg) (rd : Reg) (offset : BitVec 8)
  /-- Set-A LDRSH (reg): R306. -/
  | ldrshReg (cond : Cond) (pre : Bool) (up : Bool) (wb : Bool) (rn : Reg) (rd : Reg) (rm : Reg)
  /-- Set-A LDM: R311. -/
  | ldm (cond : Cond) (pre : Bool) (up : Bool) (sbit : Bool) (wb : Bool) (rn : Reg) (rlist : BitVec 16)
  /-- Set-A STM: R312. -/
  | stm (cond : Cond) (pre : Bool) (up : Bool) (sbit : Bool) (wb : Bool) (rn : Reg) (rlist : BitVec 16)
  /-- Set-A SWP: R320. -/
  | swp (cond : Cond) (rn : Reg) (rd : Reg) (rm : Reg)
  /-- Set-A SWPB: R321. -/
  | swpb (cond : Cond) (rn : Reg) (rd : Reg) (rm : Reg)
  /-- Set-A B: R340. -/
  | b (cond : Cond) (offset24 : BitVec 24)
  /-- Set-A BL: R341. -/
  | bl (cond : Cond) (offset24 : BitVec 24)
  /-- Set-A BX: R342. -/
  | bx (cond : Cond) (rm : Reg)
  /-- Set-A SWI: R343. -/
  | swi (cond : Cond) (comment : BitVec 24)
  /-- Set-A UND: R347. -/
  | und (cond : Cond) (hi : BitVec 20) (lo : BitVec 4)
  /-- Set-A LDC: R348. -/
  | ldc (cond : Cond) (p : Bool) (u : Bool) (n : Bool) (w : Bool) (rn : Reg) (crd : BitVec 4) (cp : BitVec 4) (offset : BitVec 8)
  /-- Set-A STC: R348. -/
  | stc (cond : Cond) (p : Bool) (u : Bool) (n : Bool) (w : Bool) (rn : Reg) (crd : BitVec 4) (cp : BitVec 4) (offset : BitVec 8)
  /-- Set-A CDP: R348. -/
  | cdp (cond : Cond) (op1 : BitVec 4) (crn : BitVec 4) (crd : BitVec 4) (cp : BitVec 4) (op2 : BitVec 3) (crm : BitVec 4)
  /-- Set-A MCR: R348. -/
  | mcr (cond : Cond) (op1 : BitVec 3) (crn : BitVec 4) (rd : Reg) (cp : BitVec 4) (op2 : BitVec 3) (crm : BitVec 4)
  /-- Set-A MRC: R348. -/
  | mrc (cond : Cond) (op1 : BitVec 3) (crn : BitVec 4) (rd : Reg) (cp : BitVec 4) (op2 : BitVec 3) (crm : BitVec 4)
  /-- Set-A Unsupported (reserved multiply): R350. -/
  | unsupportedMultiply (word : Word)
  /-- Set-A Unsupported (reserved swap): R350. -/
  | unsupportedSwap (word : Word)
  /-- Set-A Unsupported (reserved halfword store): R350. -/
  | unsupportedHalfwordStore (word : Word)
  /-- Set-A Unsupported (reserved misc): R350. -/
  | unsupportedMisc (word : Word)
  /-- Set-A Unsupported (reserved immediate misc): R350. -/
  | unsupportedImmMisc (word : Word)
  /-- Set-B LSL (imm): R371. -/
  | bLslImm (offset5 : BitVec 5) (rs : LowReg) (rd : LowReg)
  /-- Set-B LSR (imm): R372. -/
  | bLsrImm (offset5 : BitVec 5) (rs : LowReg) (rd : LowReg)
  /-- Set-B ASR (imm): R373. -/
  | bAsrImm (offset5 : BitVec 5) (rs : LowReg) (rd : LowReg)
  /-- Set-B ADD (reg): R374. -/
  | bAddReg (rn : LowReg) (rs : LowReg) (rd : LowReg)
  /-- Set-B SUB (reg): R375. -/
  | bSubReg (rn : LowReg) (rs : LowReg) (rd : LowReg)
  /-- Set-B ADD (imm3): R376. -/
  | bAddImm3 (imm3 : BitVec 3) (rs : LowReg) (rd : LowReg)
  /-- Set-B SUB (imm3): R377. -/
  | bSubImm3 (imm3 : BitVec 3) (rs : LowReg) (rd : LowReg)
  /-- Set-B MOV (imm8): R378. -/
  | bMovImm8 (rd : LowReg) (imm8 : BitVec 8)
  /-- Set-B CMP (imm8): R379. -/
  | bCmpImm8 (rd : LowReg) (imm8 : BitVec 8)
  /-- Set-B ADD (imm8): R380. -/
  | bAddImm8 (rd : LowReg) (imm8 : BitVec 8)
  /-- Set-B SUB (imm8): R381. -/
  | bSubImm8 (rd : LowReg) (imm8 : BitVec 8)
  /-- Set-B AND (alu): R382. -/
  | bAndAlu (rs : LowReg) (rd : LowReg)
  /-- Set-B EOR (alu): R383. -/
  | bEorAlu (rs : LowReg) (rd : LowReg)
  /-- Set-B LSL (reg): R384. -/
  | bLslReg (rs : LowReg) (rd : LowReg)
  /-- Set-B LSR (reg): R385. -/
  | bLsrReg (rs : LowReg) (rd : LowReg)
  /-- Set-B ASR (reg): R386. -/
  | bAsrReg (rs : LowReg) (rd : LowReg)
  /-- Set-B ADC (alu): R387. -/
  | bAdcAlu (rs : LowReg) (rd : LowReg)
  /-- Set-B SBC (alu): R388. -/
  | bSbcAlu (rs : LowReg) (rd : LowReg)
  /-- Set-B ROR (reg): R389. -/
  | bRorReg (rs : LowReg) (rd : LowReg)
  /-- Set-B TST (alu): R390. -/
  | bTstAlu (rs : LowReg) (rd : LowReg)
  /-- Set-B NEG (alu): R391. -/
  | bNegAlu (rs : LowReg) (rd : LowReg)
  /-- Set-B CMP (alu): R392. -/
  | bCmpAlu (rs : LowReg) (rd : LowReg)
  /-- Set-B CMN (alu): R393. -/
  | bCmnAlu (rs : LowReg) (rd : LowReg)
  /-- Set-B ORR (alu): R394. -/
  | bOrrAlu (rs : LowReg) (rd : LowReg)
  /-- Set-B MUL (alu): R395. -/
  | bMulAlu (rs : LowReg) (rd : LowReg)
  /-- Set-B BIC (alu): R396. -/
  | bBicAlu (rs : LowReg) (rd : LowReg)
  /-- Set-B MVN (alu): R397. -/
  | bMvnAlu (rs : LowReg) (rd : LowReg)
  /-- Set-B ADD (hi): R398. -/
  | bAddHi (hd : Reg) (hs : Reg)
  /-- Set-B CMP (hi): R399. -/
  | bCmpHi (hd : Reg) (hs : Reg)
  /-- Set-B MOV (hi): R400. -/
  | bMovHi (hd : Reg) (hs : Reg)
  /-- Set-B BX (hi): R401. -/
  | bBxHi (h1 : Bool) (hs : Reg)
  /-- Set-B LDR (pc): R420. -/
  | bLdrPc (rd : LowReg) (word8 : BitVec 8)
  /-- Set-B STR (reg): R421. -/
  | bStrReg (ro : LowReg) (rb : LowReg) (rd : LowReg)
  /-- Set-B STRB (reg): R422. -/
  | bStrbReg (ro : LowReg) (rb : LowReg) (rd : LowReg)
  /-- Set-B LDR (reg): R423. -/
  | bLdrReg (ro : LowReg) (rb : LowReg) (rd : LowReg)
  /-- Set-B LDRB (reg): R424. -/
  | bLdrbReg (ro : LowReg) (rb : LowReg) (rd : LowReg)
  /-- Set-B STRH (reg): R425. -/
  | bStrhReg (ro : LowReg) (rb : LowReg) (rd : LowReg)
  /-- Set-B LDSB (reg): R426. -/
  | bLdsbReg (ro : LowReg) (rb : LowReg) (rd : LowReg)
  /-- Set-B LDRH (reg): R427. -/
  | bLdrhReg (ro : LowReg) (rb : LowReg) (rd : LowReg)
  /-- Set-B LDSH (reg): R428. -/
  | bLdshReg (ro : LowReg) (rb : LowReg) (rd : LowReg)
  /-- Set-B STR (imm5): R429. -/
  | bStrImm5 (offset5 : BitVec 5) (rb : LowReg) (rd : LowReg)
  /-- Set-B LDR (imm5): R430. -/
  | bLdrImm5 (offset5 : BitVec 5) (rb : LowReg) (rd : LowReg)
  /-- Set-B STRB (imm5): R431. -/
  | bStrbImm5 (offset5 : BitVec 5) (rb : LowReg) (rd : LowReg)
  /-- Set-B LDRB (imm5): R432. -/
  | bLdrbImm5 (offset5 : BitVec 5) (rb : LowReg) (rd : LowReg)
  /-- Set-B STRH (imm5): R433. -/
  | bStrhImm5 (offset5 : BitVec 5) (rb : LowReg) (rd : LowReg)
  /-- Set-B LDRH (imm5): R434. -/
  | bLdrhImm5 (offset5 : BitVec 5) (rb : LowReg) (rd : LowReg)
  /-- Set-B STR (sp): R435. -/
  | bStrSp (rd : LowReg) (word8 : BitVec 8)
  /-- Set-B LDR (sp): R436. -/
  | bLdrSp (rd : LowReg) (word8 : BitVec 8)
  /-- Set-B ADD (pc): R437. -/
  | bAddPc (rd : LowReg) (word8 : BitVec 8)
  /-- Set-B ADD (sp): R438. -/
  | bAddSp (rd : LowReg) (word8 : BitVec 8)
  /-- Set-B ADD (sp imm): R439. -/
  | bAddSpImm (sword7 : BitVec 7)
  /-- Set-B SUB (sp imm): R440. -/
  | bSubSpImm (sword7 : BitVec 7)
  /-- Set-B PUSH: R441. -/
  | bPush (r : Bool) (rlist : BitVec 8)
  /-- Set-B POP: R442. -/
  | bPop (r : Bool) (rlist : BitVec 8)
  /-- Set-B STMIA: R443. -/
  | bStmia (rb : LowReg) (rlist : BitVec 8)
  /-- Set-B LDMIA: R444. -/
  | bLdmia (rb : LowReg) (rlist : BitVec 8)
  /-- Set-B BEQ: R460. -/
  | bBeq (soffset8 : BitVec 8)
  /-- Set-B BNE: R460. -/
  | bBne (soffset8 : BitVec 8)
  /-- Set-B BCS: R460. -/
  | bBcs (soffset8 : BitVec 8)
  /-- Set-B BCC: R460. -/
  | bBcc (soffset8 : BitVec 8)
  /-- Set-B BMI: R460. -/
  | bBmi (soffset8 : BitVec 8)
  /-- Set-B BPL: R460. -/
  | bBpl (soffset8 : BitVec 8)
  /-- Set-B BVS: R460. -/
  | bBvs (soffset8 : BitVec 8)
  /-- Set-B BVC: R460. -/
  | bBvc (soffset8 : BitVec 8)
  /-- Set-B BHI: R460. -/
  | bBhi (soffset8 : BitVec 8)
  /-- Set-B BLS: R460. -/
  | bBls (soffset8 : BitVec 8)
  /-- Set-B BGE: R460. -/
  | bBge (soffset8 : BitVec 8)
  /-- Set-B BLT: R460. -/
  | bBlt (soffset8 : BitVec 8)
  /-- Set-B BGT: R460. -/
  | bBgt (soffset8 : BitVec 8)
  /-- Set-B BLE: R460. -/
  | bBle (soffset8 : BitVec 8)
  /-- Set-B SWI (B): R461. -/
  | bSwi (value8 : BitVec 8)
  /-- Set-B B (B): R462. -/
  | bB (offset11 : BitVec 11)
  /-- Set-B BL (prefix): R466. -/
  | bBlPrefix (offset11 : BitVec 11)
  /-- Set-B BL (suffix): R467. -/
  | bBlSuffix (offset11 : BitVec 11)
  /-- Set-B UND (B): R470. -/
  | bUnd (half : Half)
  deriving DecidableEq, Repr

/-- What the decoder reads and the encoder writes: a word of one of the two sets (R2, R121). -/
inductive Code
  | setA (word : Word)
  | setB (half : Half)
  deriving DecidableEq, Repr

end Sys2Proof
end

