-- ==== Sys2Proof/Machine/Bits.lean ====
section
/-! DEFINITION. Bit fields of a word (rule R13): reading `w[hi:lo]` and putting a field into place. -/

namespace Sys2Proof

/-- `w[lo + len - 1 : lo]` (R13). -/
def field {n : Nat} (w : BitVec n) (lo len : Nat) : BitVec len := w.extractLsb' lo len

/-- `w[i]` (R13). -/
def bit {n : Nat} (w : BitVec n) (i : Nat) : Bool := w.getLsbD i

/-- The word whose field at `lo` is `b` and whose other bits are 0. -/
def put {n k : Nat} (b : BitVec k) (lo : Nat) : BitVec n := b.setWidth n <<< lo

/-- The word whose bit `i` is `b` and whose other bits are 0. -/
def putBit {n : Nat} (b : Bool) (i : Nat) : BitVec n := put (BitVec.ofBool b) i

/-- `w` with bit `i` set to `b`. -/
def withBit {n : Nat} (w : BitVec n) (i : Nat) (b : Bool) : BitVec n :=
  if b then w ||| BitVec.twoPow n i else w &&& ~~~BitVec.twoPow n i

/-- The register number of a 4-bit field. -/
def Reg.ofBits (b : BitVec 4) : Fin 16 := b.toFin

/-- The 4-bit field of a register number. -/
def Reg.bits (r : Fin 16) : BitVec 4 := BitVec.ofFin (w := 4) r

/-- The register number of a 3-bit field. -/
def LowReg.ofBits (b : BitVec 3) : Fin 8 := b.toFin

/-- The 3-bit field of a low register number. -/
def LowReg.bits (r : Fin 8) : BitVec 3 := BitVec.ofFin (w := 3) r

/-- `H : low`, the 4-bit register number of format F5 (R145). -/
def Reg.ofParts (high : Bool) (low : BitVec 3) : Fin 16 := Reg.ofBits (BitVec.ofBool high ++ low)

/-- The `n`-th byte of a word, 0 the least significant. -/
def byteOf {n : Nat} (w : BitVec n) (k : Nat) : Byte := field w (8 * k) 8

/-! The Set-A words without a meaning: the five classes of rule R137. -/

/-- Reserved multiply: bits 27:22 = 000001, bits 7:4 = 1001. -/
def isReservedMultiply (w : Word) : Bool := field w 22 6 = 0b000001#6 && field w 4 4 = 0b1001#4

/-- Reserved swap space: bits 27:24 = 0001, bits 7:4 = 1001, bits 23, 21 and 20 not all 0. -/
def isReservedSwap (w : Word) : Bool :=
  field w 24 4 = 0b0001#4 && field w 4 4 = 0b1001#4 && (bit w 23 || field w 20 2 != 0b00#2)

/-- Reserved halfword store: bits 27:25 = 000, L = 0, bits 7:4 = 1101 or 1111. -/
def isReservedHalfwordStore (w : Word) : Bool :=
  field w 25 3 = 0b000#3 && !bit w 20 && (field w 4 4 = 0b1101#4 || field w 4 4 = 0b1111#4)

/-- Reserved misc: bits 27:23 = 00010, bit 20 = 0, and none of the multiply and halfword space (bits 7 and 4 both 1),
MRS and MSR (bits 7:4 = 0000) and BX (bits 7:4 = 0001, bits 22:21 = 01). -/
def isReservedMisc (w : Word) : Bool :=
  field w 23 5 = 0b00010#5 && !bit w 20 && !(bit w 7 && bit w 4) && field w 4 4 != 0b0000#4 &&
    !(field w 4 4 = 0b0001#4 && field w 21 2 = 0b01#2)

/-- Reserved immediate misc: bits 27:23 = 00110, bits 21:20 = 00. -/
def isReservedImmMisc (w : Word) : Bool := field w 23 5 = 0b00110#5 && field w 20 2 = 0b00#2

/-- The undefined Set-B words, as rule R160 lists them: 0xB100-0xB3FF, 0xB600-0xBBFF, 0xBE00-0xBFFF, 0xDE00-0xDEFF
and 0xE800-0xEFFF. -/
def isUndefinedB (h : Half) : Bool :=
  (0xB100#16 ≤ h && h ≤ 0xB3FF#16) || (0xB600#16 ≤ h && h ≤ 0xBBFF#16) ||
    (0xBE00#16 ≤ h && h ≤ 0xBFFF#16) || (0xDE00#16 ≤ h && h ≤ 0xDEFF#16) || (0xE800#16 ≤ h && h ≤ 0xEFFF#16)

end Sys2Proof
end

