-- ==== Sys2Proof/WellFormed.lean ====
section
/-! DEFINITION. Which terms of `Instr` are instructions.  Every field of a constructor may take every value of its type
(R35, R125-R136, R141-R159), so only the six constructors that keep a raw word are checked: the word must belong to the
class the constructor names (R137, R160). -/

namespace Sys2Proof

/-- The instruction is one the encodings of the spec can express. -/
def Instr.wellFormed : Instr → Bool
  | .andImm _ _ _ _ _ _ => true
  | .andRegImm _ _ _ _ _ _ _ => true
  | .andRegReg _ _ _ _ _ _ _ => true
  | .eorImm _ _ _ _ _ _ => true
  | .eorRegImm _ _ _ _ _ _ _ => true
  | .eorRegReg _ _ _ _ _ _ _ => true
  | .subImm _ _ _ _ _ _ => true
  | .subRegImm _ _ _ _ _ _ _ => true
  | .subRegReg _ _ _ _ _ _ _ => true
  | .rsbImm _ _ _ _ _ _ => true
  | .rsbRegImm _ _ _ _ _ _ _ => true
  | .rsbRegReg _ _ _ _ _ _ _ => true
  | .addImm _ _ _ _ _ _ => true
  | .addRegImm _ _ _ _ _ _ _ => true
  | .addRegReg _ _ _ _ _ _ _ => true
  | .adcImm _ _ _ _ _ _ => true
  | .adcRegImm _ _ _ _ _ _ _ => true
  | .adcRegReg _ _ _ _ _ _ _ => true
  | .sbcImm _ _ _ _ _ _ => true
  | .sbcRegImm _ _ _ _ _ _ _ => true
  | .sbcRegReg _ _ _ _ _ _ _ => true
  | .rscImm _ _ _ _ _ _ => true
  | .rscRegImm _ _ _ _ _ _ _ => true
  | .rscRegReg _ _ _ _ _ _ _ => true
  | .tstImm _ _ _ _ => true
  | .tstRegImm _ _ _ _ _ => true
  | .tstRegReg _ _ _ _ _ => true
  | .teqImm _ _ _ _ => true
  | .teqRegImm _ _ _ _ _ => true
  | .teqRegReg _ _ _ _ _ => true
  | .cmpImm _ _ _ _ => true
  | .cmpRegImm _ _ _ _ _ => true
  | .cmpRegReg _ _ _ _ _ => true
  | .cmnImm _ _ _ _ => true
  | .cmnRegImm _ _ _ _ _ => true
  | .cmnRegReg _ _ _ _ _ => true
  | .orrImm _ _ _ _ _ _ => true
  | .orrRegImm _ _ _ _ _ _ _ => true
  | .orrRegReg _ _ _ _ _ _ _ => true
  | .movImm _ _ _ _ _ => true
  | .movRegImm _ _ _ _ _ _ => true
  | .movRegReg _ _ _ _ _ _ => true
  | .bicImm _ _ _ _ _ _ => true
  | .bicRegImm _ _ _ _ _ _ _ => true
  | .bicRegReg _ _ _ _ _ _ _ => true
  | .mvnImm _ _ _ _ _ => true
  | .mvnRegImm _ _ _ _ _ _ => true
  | .mvnRegReg _ _ _ _ _ _ => true
  | .mrs _ _ _ => true
  | .msrReg _ _ _ _ => true
  | .msrImm _ _ _ _ _ => true
  | .mul _ _ _ _ _ => true
  | .mla _ _ _ _ _ _ => true
  | .umull _ _ _ _ _ _ => true
  | .umlal _ _ _ _ _ _ => true
  | .smull _ _ _ _ _ _ => true
  | .smlal _ _ _ _ _ _ => true
  | .ldrImmPre _ _ _ _ _ _ => true
  | .ldrImmPost _ _ _ _ _ => true
  | .ldrRegPre _ _ _ _ _ _ _ _ => true
  | .ldrRegPost _ _ _ _ _ _ _ => true
  | .strImmPre _ _ _ _ _ _ => true
  | .strImmPost _ _ _ _ _ => true
  | .strRegPre _ _ _ _ _ _ _ _ => true
  | .strRegPost _ _ _ _ _ _ _ => true
  | .ldrbImmPre _ _ _ _ _ _ => true
  | .ldrbImmPost _ _ _ _ _ => true
  | .ldrbRegPre _ _ _ _ _ _ _ _ => true
  | .ldrbRegPost _ _ _ _ _ _ _ => true
  | .strbImmPre _ _ _ _ _ _ => true
  | .strbImmPost _ _ _ _ _ => true
  | .strbRegPre _ _ _ _ _ _ _ _ => true
  | .strbRegPost _ _ _ _ _ _ _ => true
  | .ldrtImm _ _ _ _ _ => true
  | .ldrtReg _ _ _ _ _ _ _ => true
  | .strtImm _ _ _ _ _ => true
  | .strtReg _ _ _ _ _ _ _ => true
  | .ldrbtImm _ _ _ _ _ => true
  | .ldrbtReg _ _ _ _ _ _ _ => true
  | .strbtImm _ _ _ _ _ => true
  | .strbtReg _ _ _ _ _ _ _ => true
  | .strhImm _ _ _ _ _ _ _ => true
  | .strhReg _ _ _ _ _ _ _ => true
  | .ldrhImm _ _ _ _ _ _ _ => true
  | .ldrhReg _ _ _ _ _ _ _ => true
  | .ldrsbImm _ _ _ _ _ _ _ => true
  | .ldrsbReg _ _ _ _ _ _ _ => true
  | .ldrshImm _ _ _ _ _ _ _ => true
  | .ldrshReg _ _ _ _ _ _ _ => true
  | .ldm _ _ _ _ _ _ _ => true
  | .stm _ _ _ _ _ _ _ => true
  | .swp _ _ _ _ => true
  | .swpb _ _ _ _ => true
  | .b _ _ => true
  | .bl _ _ => true
  | .bx _ _ => true
  | .swi _ _ => true
  | .und _ _ _ => true
  | .ldc _ _ _ _ _ _ _ _ _ => true
  | .stc _ _ _ _ _ _ _ _ _ => true
  | .cdp _ _ _ _ _ _ _ => true
  | .mcr _ _ _ _ _ _ _ => true
  | .mrc _ _ _ _ _ _ _ => true
  | .unsupportedMultiply word => isReservedMultiply word
  | .unsupportedSwap word => isReservedSwap word
  | .unsupportedHalfwordStore word => isReservedHalfwordStore word
  | .unsupportedMisc word => isReservedMisc word
  | .unsupportedImmMisc word => isReservedImmMisc word
  | .bLslImm _ _ _ => true
  | .bLsrImm _ _ _ => true
  | .bAsrImm _ _ _ => true
  | .bAddReg _ _ _ => true
  | .bSubReg _ _ _ => true
  | .bAddImm3 _ _ _ => true
  | .bSubImm3 _ _ _ => true
  | .bMovImm8 _ _ => true
  | .bCmpImm8 _ _ => true
  | .bAddImm8 _ _ => true
  | .bSubImm8 _ _ => true
  | .bAndAlu _ _ => true
  | .bEorAlu _ _ => true
  | .bLslReg _ _ => true
  | .bLsrReg _ _ => true
  | .bAsrReg _ _ => true
  | .bAdcAlu _ _ => true
  | .bSbcAlu _ _ => true
  | .bRorReg _ _ => true
  | .bTstAlu _ _ => true
  | .bNegAlu _ _ => true
  | .bCmpAlu _ _ => true
  | .bCmnAlu _ _ => true
  | .bOrrAlu _ _ => true
  | .bMulAlu _ _ => true
  | .bBicAlu _ _ => true
  | .bMvnAlu _ _ => true
  | .bAddHi _ _ => true
  | .bCmpHi _ _ => true
  | .bMovHi _ _ => true
  | .bBxHi _ _ => true
  | .bLdrPc _ _ => true
  | .bStrReg _ _ _ => true
  | .bStrbReg _ _ _ => true
  | .bLdrReg _ _ _ => true
  | .bLdrbReg _ _ _ => true
  | .bStrhReg _ _ _ => true
  | .bLdsbReg _ _ _ => true
  | .bLdrhReg _ _ _ => true
  | .bLdshReg _ _ _ => true
  | .bStrImm5 _ _ _ => true
  | .bLdrImm5 _ _ _ => true
  | .bStrbImm5 _ _ _ => true
  | .bLdrbImm5 _ _ _ => true
  | .bStrhImm5 _ _ _ => true
  | .bLdrhImm5 _ _ _ => true
  | .bStrSp _ _ => true
  | .bLdrSp _ _ => true
  | .bAddPc _ _ => true
  | .bAddSp _ _ => true
  | .bAddSpImm _ => true
  | .bSubSpImm _ => true
  | .bPush _ _ => true
  | .bPop _ _ => true
  | .bStmia _ _ => true
  | .bLdmia _ _ => true
  | .bBeq _ => true
  | .bBne _ => true
  | .bBcs _ => true
  | .bBcc _ => true
  | .bBmi _ => true
  | .bBpl _ => true
  | .bBvs _ => true
  | .bBvc _ => true
  | .bBhi _ => true
  | .bBls _ => true
  | .bBge _ => true
  | .bBlt _ => true
  | .bBgt _ => true
  | .bBle _ => true
  | .bSwi _ => true
  | .bB _ => true
  | .bBlPrefix _ => true
  | .bBlSuffix _ => true
  | .bUnd half => isUndefinedB half

end Sys2Proof
end

