-- ==== Sys2Proof/Decode.lean ====
section
/-! DEFINITION. The two decoders (R120-R163), the byte layout of an instruction (R82, R121), and the encoder.
`decodeA` and `decodeB` follow the decode procedures of R123 and R140 case by case; both are total (R120). -/

namespace Sys2Proof

/-- The condition of a code, R180's order. -/
def Cond.ofBits (b : BitVec 4) : Cond :=
  match b.toNat with
  | 0 => .eq | 1 => .ne | 2 => .cs | 3 => .cc | 4 => .mi | 5 => .pl | 6 => .vs | 7 => .vc
  | 8 => .hi | 9 => .ls | 10 => .ge | 11 => .lt | 12 => .gt | 13 => .le | 14 => .al | _ => .nv

/-- The code of a condition, R180's table. -/
def Cond.bits : Cond → BitVec 4
  | .eq => 0b0000#4 | .ne => 0b0001#4 | .cs => 0b0010#4 | .cc => 0b0011#4 | .mi => 0b0100#4 | .pl => 0b0101#4
  | .vs => 0b0110#4 | .vc => 0b0111#4 | .hi => 0b1000#4 | .ls => 0b1001#4 | .ge => 0b1010#4 | .lt => 0b1011#4
  | .gt => 0b1100#4 | .le => 0b1101#4 | .al => 0b1110#4 | .nv => 0b1111#4

/-- The shift type of bits 6:5 (R125). -/
def ShiftType.ofBits (b : BitVec 2) : ShiftType :=
  match b.toNat with
  | 0 => .lsl | 1 => .lsr | 2 => .asr | _ => .ror

/-- The bits of a shift type (R125). -/
def ShiftType.bits : ShiftType → BitVec 2
  | .lsl => 0b00#2 | .lsr => 0b01#2 | .asr => 0b10#2 | .ror => 0b11#2

/-- Bit 22 of the PSR transfers, R: CPSR is 0, SPSR is 1 (R126). -/
def Psr.ofBit (r : Bool) : Psr := if r then .spsr else .cpsr

/-- The R bit of a status word (R126). -/
def Psr.bit : Psr → Bool
  | .cpsr => false
  | .spsr => true

/-- The data-processing operation of bits 24:21 (R124). -/
def DpOp.ofBits (b : BitVec 4) : DpOp :=
  match b.toNat with
  | 0 => .and | 1 => .eor | 2 => .sub | 3 => .rsb | 4 => .add | 5 => .adc | 6 => .sbc | 7 => .rsc
  | 8 => .tst | 9 => .teq | 10 => .cmp | 11 => .cmn | 12 => .orr | 13 => .mov | 14 => .bic | _ => .mvn

/-- The opcode of a data-processing operation (R124). -/
def DpOp.bits : DpOp → BitVec 4
  | .and => 0b0000#4 | .eor => 0b0001#4 | .sub => 0b0010#4 | .rsb => 0b0011#4 | .add => 0b0100#4 | .adc => 0b0101#4
  | .sbc => 0b0110#4 | .rsc => 0b0111#4 | .tst => 0b1000#4 | .teq => 0b1001#4 | .cmp => 0b1010#4 | .cmn => 0b1011#4
  | .orr => 0b1100#4 | .mov => 0b1101#4 | .bic => 0b1110#4 | .mvn => 0b1111#4

/-- The A-DP instruction of an operation, immediate operand (R124, R125); TST, TEQ, CMP and CMN have no S and no Rd, MOV
and MVN no Rn (R138). -/
def Instr.dpImm (op : DpOp) (cond : Cond) (sf : Bool) (rn rd : Reg) (rotate : BitVec 4) (imm8 : BitVec 8) : Instr :=
  match op with
  | .and => .andImm cond sf rn rd rotate imm8
  | .eor => .eorImm cond sf rn rd rotate imm8
  | .sub => .subImm cond sf rn rd rotate imm8
  | .rsb => .rsbImm cond sf rn rd rotate imm8
  | .add => .addImm cond sf rn rd rotate imm8
  | .adc => .adcImm cond sf rn rd rotate imm8
  | .sbc => .sbcImm cond sf rn rd rotate imm8
  | .rsc => .rscImm cond sf rn rd rotate imm8
  | .tst => .tstImm cond rn rotate imm8
  | .teq => .teqImm cond rn rotate imm8
  | .cmp => .cmpImm cond rn rotate imm8
  | .cmn => .cmnImm cond rn rotate imm8
  | .orr => .orrImm cond sf rn rd rotate imm8
  | .mov => .movImm cond sf rd rotate imm8
  | .bic => .bicImm cond sf rn rd rotate imm8
  | .mvn => .mvnImm cond sf rd rotate imm8

/-- The A-DP instruction of an operation, register shifted by an immediate (R124, R125); TST, TEQ, CMP and CMN have no S and no Rd, MOV
and MVN no Rn (R138). -/
def Instr.dpRegImm (op : DpOp) (cond : Cond) (sf : Bool) (rn rd : Reg) (amount : BitVec 5) (sh : ShiftType) (rm : Reg) : Instr :=
  match op with
  | .and => .andRegImm cond sf rn rd amount sh rm
  | .eor => .eorRegImm cond sf rn rd amount sh rm
  | .sub => .subRegImm cond sf rn rd amount sh rm
  | .rsb => .rsbRegImm cond sf rn rd amount sh rm
  | .add => .addRegImm cond sf rn rd amount sh rm
  | .adc => .adcRegImm cond sf rn rd amount sh rm
  | .sbc => .sbcRegImm cond sf rn rd amount sh rm
  | .rsc => .rscRegImm cond sf rn rd amount sh rm
  | .tst => .tstRegImm cond rn amount sh rm
  | .teq => .teqRegImm cond rn amount sh rm
  | .cmp => .cmpRegImm cond rn amount sh rm
  | .cmn => .cmnRegImm cond rn amount sh rm
  | .orr => .orrRegImm cond sf rn rd amount sh rm
  | .mov => .movRegImm cond sf rd amount sh rm
  | .bic => .bicRegImm cond sf rn rd amount sh rm
  | .mvn => .mvnRegImm cond sf rd amount sh rm

/-- The A-DP instruction of an operation, register shifted by a register (R124, R125); TST, TEQ, CMP and CMN have no S and no Rd, MOV
and MVN no Rn (R138). -/
def Instr.dpRegReg (op : DpOp) (cond : Cond) (sf : Bool) (rn rd : Reg) (rs : Reg) (sh : ShiftType) (rm : Reg) : Instr :=
  match op with
  | .and => .andRegReg cond sf rn rd rs sh rm
  | .eor => .eorRegReg cond sf rn rd rs sh rm
  | .sub => .subRegReg cond sf rn rd rs sh rm
  | .rsb => .rsbRegReg cond sf rn rd rs sh rm
  | .add => .addRegReg cond sf rn rd rs sh rm
  | .adc => .adcRegReg cond sf rn rd rs sh rm
  | .sbc => .sbcRegReg cond sf rn rd rs sh rm
  | .rsc => .rscRegReg cond sf rn rd rs sh rm
  | .tst => .tstRegReg cond rn rs sh rm
  | .teq => .teqRegReg cond rn rs sh rm
  | .cmp => .cmpRegReg cond rn rs sh rm
  | .cmn => .cmnRegReg cond rn rs sh rm
  | .orr => .orrRegReg cond sf rn rd rs sh rm
  | .mov => .movRegReg cond sf rd rs sh rm
  | .bic => .bicRegReg cond sf rn rd rs sh rm
  | .mvn => .mvnRegReg cond sf rd rs sh rm

/-! ### Set-A (R123) -/

/-- The multiply, swap and halfword space: bits 27:25 = 000, bits 7 and 4 both 1 (R123, R127, R128, R130). -/
def decodeMultiplySpace (w : Word) : Instr :=
  let cond := Cond.ofBits (field w 28 4)
  let rA := Reg.ofBits (field w 16 4)
  let rB := Reg.ofBits (field w 12 4)
  let rs := Reg.ofBits (field w 8 4)
  let rm := Reg.ofBits (field w 0 4)
  let sf := bit w 20
  if field w 5 2 = 0b00#2 then
    if field w 22 3 = 0b000#3 then
      if bit w 21 then .mla cond sf rA rB rs rm else .mul cond sf rA rs rm
    else if field w 22 3 = 0b001#3 then .unsupportedMultiply w
    else if field w 23 2 = 0b01#2 then
      if bit w 22 then (if bit w 21 then .smlal cond sf rA rB rs rm else .smull cond sf rA rB rs rm)
      else (if bit w 21 then .umlal cond sf rA rB rs rm else .umull cond sf rA rB rs rm)
    else if field w 23 2 = 0b10#2 ∧ field w 20 2 = 0b00#2 then
      if bit w 22 then .swpb cond rA rB rm else .swp cond rA rB rm
    else .unsupportedSwap w
  else if bit w 20 = false ∧ bit w 6 = true then .unsupportedHalfwordStore w
  else
    let pre := bit w 24
    let up := bit w 23
    let wb := bit w 21
    let offset : BitVec 8 := field w 8 4 ++ field w 0 4
    if bit w 22 then
      if bit w 20 = false then .strhImm cond pre up wb rA rB offset
      else if field w 5 2 = 0b01#2 then .ldrhImm cond pre up wb rA rB offset
      else if field w 5 2 = 0b10#2 then .ldrsbImm cond pre up wb rA rB offset
      else .ldrshImm cond pre up wb rA rB offset
    else
      if bit w 20 = false then .strhReg cond pre up wb rA rB rm
      else if field w 5 2 = 0b01#2 then .ldrhReg cond pre up wb rA rB rm
      else if field w 5 2 = 0b10#2 then .ldrsbReg cond pre up wb rA rB rm
      else .ldrshReg cond pre up wb rA rB rm

/-- The misc space: bits 27:23 = 00010, bit 20 = 0, not multiply space (R123, R126, R129). -/
def decodeMiscSpace (w : Word) : Instr :=
  let cond := Cond.ofBits (field w 28 4)
  let rm := Reg.ofBits (field w 0 4)
  if field w 4 4 = 0b0000#4 then
    if bit w 21 then .msrReg cond (Psr.ofBit (bit w 22)) (field w 16 4) rm
    else .mrs cond (Psr.ofBit (bit w 22)) (Reg.ofBits (field w 12 4))
  else if field w 4 4 = 0b0001#4 ∧ field w 21 2 = 0b01#2 then .bx cond rm
  else .unsupportedMisc w

/-- Single data transfers: bits 27:26 = 01 (R123, R131); P = 0 with W = 1 is the T variant. -/
def decodeSingleTransfer (w : Word) : Instr :=
  let cond := Cond.ofBits (field w 28 4)
  let pre := bit w 24
  let up := bit w 23
  let wb := bit w 21
  let rn := Reg.ofBits (field w 16 4)
  let rd := Reg.ofBits (field w 12 4)
  let offset : BitVec 12 := field w 0 12
  let amount : BitVec 5 := field w 7 5
  let sh := ShiftType.ofBits (field w 5 2)
  let rm := Reg.ofBits (field w 0 4)
  let load := bit w 20
  if bit w 25 then
    if bit w 22 then
      if pre then (if load then .ldrbRegPre cond up wb rn rd amount sh rm else .strbRegPre cond up wb rn rd amount sh rm)
      else if wb then (if load then .ldrbtReg cond up rn rd amount sh rm else .strbtReg cond up rn rd amount sh rm)
      else (if load then .ldrbRegPost cond up rn rd amount sh rm else .strbRegPost cond up rn rd amount sh rm)
    else
      if pre then (if load then .ldrRegPre cond up wb rn rd amount sh rm else .strRegPre cond up wb rn rd amount sh rm)
      else if wb then (if load then .ldrtReg cond up rn rd amount sh rm else .strtReg cond up rn rd amount sh rm)
      else (if load then .ldrRegPost cond up rn rd amount sh rm else .strRegPost cond up rn rd amount sh rm)
  else
    if bit w 22 then
      if pre then (if load then .ldrbImmPre cond up wb rn rd offset else .strbImmPre cond up wb rn rd offset)
      else if wb then (if load then .ldrbtImm cond up rn rd offset else .strbtImm cond up rn rd offset)
      else (if load then .ldrbImmPost cond up rn rd offset else .strbImmPost cond up rn rd offset)
    else
      if pre then (if load then .ldrImmPre cond up wb rn rd offset else .strImmPre cond up wb rn rd offset)
      else if wb then (if load then .ldrtImm cond up rn rd offset else .strtImm cond up rn rd offset)
      else (if load then .ldrImmPost cond up rn rd offset else .strImmPost cond up rn rd offset)

/-- `DecodeA` (R123). -/
def decodeA (w : Word) : Instr :=
  let cond := Cond.ofBits (field w 28 4)
  let sf := bit w 20
  let op := DpOp.ofBits (field w 21 4)
  let rn := Reg.ofBits (field w 16 4)
  let rd := Reg.ofBits (field w 12 4)
  let sh := ShiftType.ofBits (field w 5 2)
  let rm := Reg.ofBits (field w 0 4)
  if field w 25 3 = 0b000#3 then
    if bit w 7 = true ∧ bit w 4 = true then decodeMultiplySpace w
    else if field w 23 2 = 0b10#2 ∧ bit w 20 = false then decodeMiscSpace w
    else if bit w 4 = false then .dpRegImm op cond sf rn rd (field w 7 5) sh rm
    else .dpRegReg op cond sf rn rd (Reg.ofBits (field w 8 4)) sh rm
  else if field w 25 3 = 0b001#3 then
    if field w 23 2 = 0b10#2 ∧ bit w 20 = false then
      if bit w 21 then .msrImm cond (Psr.ofBit (bit w 22)) (field w 16 4) (field w 8 4) (field w 0 8)
      else .unsupportedImmMisc w
    else .dpImm op cond sf rn rd (field w 8 4) (field w 0 8)
  else if field w 25 3 = 0b010#3 then decodeSingleTransfer w
  else if field w 25 3 = 0b011#3 then
    if bit w 4 then .und cond (field w 5 20) (field w 0 4) else decodeSingleTransfer w
  else if field w 25 3 = 0b100#3 then
    if bit w 20 then .ldm cond (bit w 24) (bit w 23) (bit w 22) (bit w 21) rn (field w 0 16)
    else .stm cond (bit w 24) (bit w 23) (bit w 22) (bit w 21) rn (field w 0 16)
  else if field w 25 3 = 0b101#3 then
    if bit w 24 then .bl cond (field w 0 24) else .b cond (field w 0 24)
  else if field w 25 3 = 0b110#3 then
    if bit w 20 then .ldc cond (bit w 24) (bit w 23) (bit w 22) (bit w 21) rn (field w 12 4) (field w 8 4) (field w 0 8)
    else .stc cond (bit w 24) (bit w 23) (bit w 22) (bit w 21) rn (field w 12 4) (field w 8 4) (field w 0 8)
  else
    if bit w 24 then .swi cond (field w 0 24)
    else if bit w 4 = false then
      .cdp cond (field w 20 4) (field w 16 4) (field w 12 4) (field w 8 4) (field w 5 3) (field w 0 4)
    else if bit w 20 then
      .mrc cond (field w 21 3) (field w 16 4) rd (field w 8 4) (field w 5 3) (field w 0 4)
    else .mcr cond (field w 21 3) (field w 16 4) rd (field w 8 4) (field w 5 3) (field w 0 4)

/-! ### Set-B (R140) -/

/-- F4: the ALU operation of bits 9:6 (R144). -/
def decodeAluB (op : BitVec 4) (rs rd : LowReg) : Instr :=
  match op.toNat with
  | 0 => .bAndAlu rs rd
  | 1 => .bEorAlu rs rd
  | 2 => .bLslReg rs rd
  | 3 => .bLsrReg rs rd
  | 4 => .bAsrReg rs rd
  | 5 => .bAdcAlu rs rd
  | 6 => .bSbcAlu rs rd
  | 7 => .bRorReg rs rd
  | 8 => .bTstAlu rs rd
  | 9 => .bNegAlu rs rd
  | 10 => .bCmpAlu rs rd
  | 11 => .bCmnAlu rs rd
  | 12 => .bOrrAlu rs rd
  | 13 => .bMulAlu rs rd
  | 14 => .bBicAlu rs rd
  | _ => .bMvnAlu rs rd

/-- F16: the conditional branch of a condition 0000-1101 (R156); 1110 and 1111 are not F16. -/
def decodeCondBranchB (cond : BitVec 4) (soffset8 : BitVec 8) : Instr :=
  match cond.toNat with
  | 0 => .bBeq soffset8
  | 1 => .bBne soffset8
  | 2 => .bBcs soffset8
  | 3 => .bBcc soffset8
  | 4 => .bBmi soffset8
  | 5 => .bBpl soffset8
  | 6 => .bBvs soffset8
  | 7 => .bBvc soffset8
  | 8 => .bBhi soffset8
  | 9 => .bBls soffset8
  | 10 => .bBge soffset8
  | 11 => .bBlt soffset8
  | 12 => .bBgt soffset8
  | _ => .bBle soffset8

/-- F7 and F8: transfers with a register offset; bit 9 selects F8 (R147, R148). -/
def decodeRegTransferB (h : Half) : Instr :=
  let ro := LowReg.ofBits (field h 6 3)
  let rb := LowReg.ofBits (field h 3 3)
  let rd := LowReg.ofBits (field h 0 3)
  if bit h 9 = false then
    if bit h 11 then (if bit h 10 then .bLdrbReg ro rb rd else .bLdrReg ro rb rd)
    else (if bit h 10 then .bStrbReg ro rb rd else .bStrReg ro rb rd)
  else
    if bit h 11 then (if bit h 10 then .bLdshReg ro rb rd else .bLdrhReg ro rb rd)
    else (if bit h 10 then .bLdsbReg ro rb rd else .bStrhReg ro rb rd)

/-- F1 and F2: bits 15:13 = 000 (R141, R142). -/
def decodeShiftAddB (h : Half) : Instr :=
  let offset5 : BitVec 5 := field h 6 5
  let imm3 : BitVec 3 := field h 6 3
  let rn := LowReg.ofBits (field h 6 3)
  let rs := LowReg.ofBits (field h 3 3)
  let rd := LowReg.ofBits (field h 0 3)
  if field h 11 2 = 0b00#2 then .bLslImm offset5 rs rd
  else if field h 11 2 = 0b01#2 then .bLsrImm offset5 rs rd
  else if field h 11 2 = 0b10#2 then .bAsrImm offset5 rs rd
  else if bit h 10 then (if bit h 9 then .bSubImm3 imm3 rs rd else .bAddImm3 imm3 rs rd)
  else (if bit h 9 then .bSubReg rn rs rd else .bAddReg rn rs rd)

/-- F5: the hi-register operations (R145). -/
def decodeHiB (h : Half) : Instr :=
  let hd := Reg.ofParts (bit h 7) (field h 0 3)
  let hs := Reg.ofParts (bit h 6) (field h 3 3)
  if field h 8 2 = 0b00#2 then .bAddHi hd hs
  else if field h 8 2 = 0b01#2 then .bCmpHi hd hs
  else if field h 8 2 = 0b10#2 then .bMovHi hd hs
  else .bBxHi (bit h 7) hs

/-- `DecodeB` (R140). -/
def decodeB (h : Half) : Instr :=
  let offset5 : BitVec 5 := field h 6 5
  let rb := LowReg.ofBits (field h 3 3)
  let rd := LowReg.ofBits (field h 0 3)
  let rd8 := LowReg.ofBits (field h 8 3)
  let imm8 : BitVec 8 := field h 0 8
  if field h 13 3 = 0b000#3 then decodeShiftAddB h
  else if field h 13 3 = 0b001#3 then
    if field h 11 2 = 0b00#2 then .bMovImm8 rd8 imm8
    else if field h 11 2 = 0b01#2 then .bCmpImm8 rd8 imm8
    else if field h 11 2 = 0b10#2 then .bAddImm8 rd8 imm8
    else .bSubImm8 rd8 imm8
  else if field h 13 3 = 0b010#3 then
    if bit h 12 = false then
      if field h 10 2 = 0b00#2 then decodeAluB (field h 6 4) rb rd
      else if field h 10 2 = 0b01#2 then decodeHiB h
      else .bLdrPc rd8 imm8
    else decodeRegTransferB h
  else if field h 13 3 = 0b011#3 then
    if bit h 12 then (if bit h 11 then .bLdrbImm5 offset5 rb rd else .bStrbImm5 offset5 rb rd)
    else (if bit h 11 then .bLdrImm5 offset5 rb rd else .bStrImm5 offset5 rb rd)
  else if field h 13 3 = 0b100#3 then
    if bit h 12 = false then (if bit h 11 then .bLdrhImm5 offset5 rb rd else .bStrhImm5 offset5 rb rd)
    else (if bit h 11 then .bLdrSp rd8 imm8 else .bStrSp rd8 imm8)
  else if field h 13 3 = 0b101#3 then
    if bit h 12 = false then (if bit h 11 then .bAddSp rd8 imm8 else .bAddPc rd8 imm8)
    else if field h 8 4 = 0b0000#4 then
      (if bit h 7 then .bSubSpImm (field h 0 7) else .bAddSpImm (field h 0 7))
    else if field h 9 2 = 0b10#2 then (if bit h 11 then .bPop (bit h 8) imm8 else .bPush (bit h 8) imm8)
    else .bUnd h
  else if field h 13 3 = 0b110#3 then
    if bit h 12 = false then (if bit h 11 then .bLdmia rd8 imm8 else .bStmia rd8 imm8)
    else if field h 8 4 = 0b1111#4 then .bSwi imm8
    else if field h 8 4 = 0b1110#4 then .bUnd h
    else decodeCondBranchB (field h 8 4) imm8
  else
    if field h 11 2 = 0b00#2 then .bB (field h 0 11)
    else if field h 11 2 = 0b01#2 then .bUnd h
    else if bit h 11 then .bBlSuffix (field h 0 11) else .bBlPrefix (field h 0 11)

/-- The decoder of the set the code belongs to (R121, R541). -/
def decode : Code → Instr
  | .setA w => decodeA w
  | .setB h => decodeB h

/-! ### Bytes -/

/-- Why bytes are not an instruction: every word decodes (R120), so only bytes that end too soon are refused. -/
inductive DecodeError
  /-- fewer bytes than the set's instruction length (R121) -/
  | truncated
  deriving DecidableEq, Repr

/-- The instruction at the head of `bytes` in the set `t` selects (T = 1 is Set-B), little-endian (R82, R121), and the
bytes that follow it. -/
def decodeBytes (t : Bool) (bytes : List Byte) : Except DecodeError (Instr × List Byte) :=
  if t then
    match bytes with
    | b0 :: b1 :: rest => .ok (decodeB (b1 ++ b0), rest)
    | _ => .error .truncated
  else
    match bytes with
    | b0 :: b1 :: b2 :: b3 :: rest => .ok (decodeA (b3 ++ b2 ++ b1 ++ b0), rest)
    | _ => .error .truncated

/-- The bytes of a code as the hardware stores them, lowest address first (R82). -/
def Code.bytes : Code → List Byte
  | .setA w => [byteOf w 0, byteOf w 1, byteOf w 2, byteOf w 3]
  | .setB h => [byteOf h 0, byteOf h 1]

/-- The code of a row of the opcode table whose bits are `w`: the rows of Set-B have 16 bits, those of Set-A 32. -/
def tableCode (nbits w : Nat) : Code :=
  if nbits ≤ 16 then .setB (BitVec.ofNat 16 w) else .setA (BitVec.ofNat 32 w)

/-- Whether a code belongs to Set-B. -/
def Code.isB : Code → Bool
  | .setA _ => false
  | .setB _ => true

/-- What the decoder reads from an opcode-table row's bits, laid out as the hardware stores them. -/
def decodeTableWord (nbits w : Nat) : Option Instr :=
  match decodeBytes (tableCode nbits w).isB (tableCode nbits w).bytes with
  | .ok (i, _) => some i
  | .error _ => none

/-! ### The encoder, from the format tables (R124-R136, R141-R159)

Should-be-zero fields are written 0 and should-be-one fields 1 (R138). -/

/-- A-DP, immediate operand (R124, R125). -/
def wordDpImm (op : DpOp) (cond : Cond) (sf : Bool) (rn rd : Reg) (rotate : BitVec 4) (imm8 : BitVec 8) : Word :=
  put cond.bits 28 ||| put 0b001#3 25 ||| put op.bits 21 ||| putBit sf 20 ||| put (Reg.bits rn) 16 |||
    put (Reg.bits rd) 12 ||| put rotate 8 ||| put imm8 0

/-- A-DP, register shifted by an immediate (R124, R125). -/
def wordDpRegImm (op : DpOp) (cond : Cond) (sf : Bool) (rn rd : Reg) (amount : BitVec 5) (sh : ShiftType) (rm : Reg) :
    Word :=
  put cond.bits 28 ||| put 0b000#3 25 ||| put op.bits 21 ||| putBit sf 20 ||| put (Reg.bits rn) 16 |||
    put (Reg.bits rd) 12 ||| put amount 7 ||| put sh.bits 5 ||| putBit false 4 ||| put (Reg.bits rm) 0

/-- A-DP, register shifted by a register (R124, R125). -/
def wordDpRegReg (op : DpOp) (cond : Cond) (sf : Bool) (rn rd rs : Reg) (sh : ShiftType) (rm : Reg) : Word :=
  put cond.bits 28 ||| put 0b000#3 25 ||| put op.bits 21 ||| putBit sf 20 ||| put (Reg.bits rn) 16 |||
    put (Reg.bits rd) 12 ||| put (Reg.bits rs) 8 ||| putBit false 7 ||| put sh.bits 5 ||| putBit true 4 |||
    put (Reg.bits rm) 0

/-- A-MUL (R127): Rd in bits 19:16, Rn in bits 15:12. -/
def wordMul (cond : Cond) (a sf : Bool) (rd rn rs rm : Reg) : Word :=
  put cond.bits 28 ||| put 0b000000#6 22 ||| putBit a 21 ||| putBit sf 20 ||| put (Reg.bits rd) 16 |||
    put (Reg.bits rn) 12 ||| put (Reg.bits rs) 8 ||| put 0b1001#4 4 ||| put (Reg.bits rm) 0

/-- A-MULL (R127). -/
def wordMull (cond : Cond) (u a sf : Bool) (rdHi rdLo rs rm : Reg) : Word :=
  put cond.bits 28 ||| put 0b00001#5 23 ||| putBit u 22 ||| putBit a 21 ||| putBit sf 20 ||| put (Reg.bits rdHi) 16 |||
    put (Reg.bits rdLo) 12 ||| put (Reg.bits rs) 8 ||| put 0b1001#4 4 ||| put (Reg.bits rm) 0

/-- A-SWP (R128). -/
def wordSwp (cond : Cond) (b : Bool) (rn rd rm : Reg) : Word :=
  put cond.bits 28 ||| put 0b00010#5 23 ||| putBit b 22 ||| put 0b00#2 20 ||| put (Reg.bits rn) 16 |||
    put (Reg.bits rd) 12 ||| put 0b0000#4 8 ||| put 0b1001#4 4 ||| put (Reg.bits rm) 0

/-- A-HW, immediate offset (R130); `sh` is S:H. -/
def wordHwImm (cond : Cond) (load : Bool) (sh : BitVec 2) (pre up wb : Bool) (rn rd : Reg) (offset : BitVec 8) : Word :=
  put cond.bits 28 ||| put 0b000#3 25 ||| putBit pre 24 ||| putBit up 23 ||| putBit true 22 ||| putBit wb 21 |||
    putBit load 20 ||| put (Reg.bits rn) 16 ||| put (Reg.bits rd) 12 ||| put (field offset 4 4) 8 ||| putBit true 7 |||
    put sh 5 ||| putBit true 4 ||| put (field offset 0 4) 0

/-- A-HW, register offset (R130). -/
def wordHwReg (cond : Cond) (load : Bool) (sh : BitVec 2) (pre up wb : Bool) (rn rd rm : Reg) : Word :=
  put cond.bits 28 ||| put 0b000#3 25 ||| putBit pre 24 ||| putBit up 23 ||| putBit false 22 ||| putBit wb 21 |||
    putBit load 20 ||| put (Reg.bits rn) 16 ||| put (Reg.bits rd) 12 ||| put 0b0000#4 8 ||| putBit true 7 |||
    put sh 5 ||| putBit true 4 ||| put (Reg.bits rm) 0

/-- A-SDT, immediate offset (R131); `byte` is B. -/
def wordSdtImm (cond : Cond) (pre up byte wb load : Bool) (rn rd : Reg) (offset : BitVec 12) : Word :=
  put cond.bits 28 ||| put 0b010#3 25 ||| putBit pre 24 ||| putBit up 23 ||| putBit byte 22 ||| putBit wb 21 |||
    putBit load 20 ||| put (Reg.bits rn) 16 ||| put (Reg.bits rd) 12 ||| put offset 0

/-- A-SDT, register offset (R131). -/
def wordSdtReg (cond : Cond) (pre up byte wb load : Bool) (rn rd : Reg) (amount : BitVec 5) (sh : ShiftType) (rm : Reg) :
    Word :=
  put cond.bits 28 ||| put 0b011#3 25 ||| putBit pre 24 ||| putBit up 23 ||| putBit byte 22 ||| putBit wb 21 |||
    putBit load 20 ||| put (Reg.bits rn) 16 ||| put (Reg.bits rd) 12 ||| put amount 7 ||| put sh.bits 5 |||
    putBit false 4 ||| put (Reg.bits rm) 0

/-- A-BDT (R132). -/
def wordBdt (cond : Cond) (load pre up sbit wb : Bool) (rn : Reg) (rlist : BitVec 16) : Word :=
  put cond.bits 28 ||| put 0b100#3 25 ||| putBit pre 24 ||| putBit up 23 ||| putBit sbit 22 ||| putBit wb 21 |||
    putBit load 20 ||| put (Reg.bits rn) 16 ||| put rlist 0

/-- LDC and STC (R136). -/
def wordCpTransfer (cond : Cond) (load p u n w : Bool) (rn : Reg) (crd cp : BitVec 4) (offset : BitVec 8) : Word :=
  put cond.bits 28 ||| put 0b110#3 25 ||| putBit p 24 ||| putBit u 23 ||| putBit n 22 ||| putBit w 21 |||
    putBit load 20 ||| put (Reg.bits rn) 16 ||| put crd 12 ||| put cp 8 ||| put offset 0

/-- MCR and MRC (R136). -/
def wordCpRegister (cond : Cond) (load : Bool) (op1 : BitVec 3) (crn : BitVec 4) (rd : Reg) (cp : BitVec 4)
    (op2 : BitVec 3) (crm : BitVec 4) : Word :=
  put cond.bits 28 ||| put 0b1110#4 24 ||| put op1 21 ||| putBit load 20 ||| put crn 16 ||| put (Reg.bits rd) 12 |||
    put cp 8 ||| put op2 5 ||| putBit true 4 ||| put crm 0

/-- Formats of Set-B with three low registers or a 3-bit value: `prefix7 x y z` (R142, R147, R148). -/
def halfThree (head : BitVec 7) (x : BitVec 3) (y z : LowReg) : Half :=
  put head 9 ||| put x 6 ||| put (LowReg.bits y) 3 ||| put (LowReg.bits z) 0

/-- Formats F1, F9 and F10: `head offset5 R R` (R141, R149, R150). -/
def halfFive (head : BitVec 5) (offset5 : BitVec 5) (y z : LowReg) : Half :=
  put head 11 ||| put offset5 6 ||| put (LowReg.bits y) 3 ||| put (LowReg.bits z) 0

/-- Formats F3, F6, F11, F12 and F15: `head R imm8` (R143, R146, R151, R152, R155). -/
def halfEight (head : BitVec 5) (r : LowReg) (imm8 : BitVec 8) : Half :=
  put head 11 ||| put (LowReg.bits r) 8 ||| put imm8 0

/-- F4 (R144). -/
def halfAlu (op : BitVec 4) (rs rd : LowReg) : Half :=
  put 0b010000#6 10 ||| put op 6 ||| put (LowReg.bits rs) 3 ||| put (LowReg.bits rd) 0

/-- F5 (R145): H1 is bit 7 and H2 bit 6. -/
def halfHi (op : BitVec 2) (hd hs : Reg) : Half :=
  put 0b010001#6 10 ||| put op 8 ||| putBit (bit (Reg.bits hd) 3) 7 ||| putBit (bit (Reg.bits hs) 3) 6 |||
    put (field (Reg.bits hs) 0 3) 3 ||| put (field (Reg.bits hd) 0 3) 0

/-- F5 BX (R145); its Rd field is should-be-zero (R401). -/
def halfBx (h1 : Bool) (hs : Reg) : Half :=
  put 0b010001#6 10 ||| put 0b11#2 8 ||| putBit h1 7 ||| putBit (bit (Reg.bits hs) 3) 6 |||
    put (field (Reg.bits hs) 0 3) 3 ||| put 0b000#3 0

/-- F14 (R154). -/
def halfPushPop (load r : Bool) (rlist : BitVec 8) : Half :=
  put 0b1011#4 12 ||| putBit load 11 ||| put 0b10#2 9 ||| putBit r 8 ||| put rlist 0

/-- F16 (R156). -/
def halfCondBranch (cond : Cond) (soffset8 : BitVec 8) : Half :=
  put 0b1101#4 12 ||| put cond.bits 8 ||| put soffset8 0

/-- F18 and F19 (R158, R159). -/
def halfEleven (head : BitVec 5) (offset11 : BitVec 11) : Half := put head 11 ||| put offset11 0

/-- The words of an instruction. -/
def encode : Instr → Code
  | .andImm cond sf rn rd rotate imm8 => .setA (wordDpImm .and cond sf rn rd rotate imm8)
  | .andRegImm cond sf rn rd amount sh rm => .setA (wordDpRegImm .and cond sf rn rd amount sh rm)
  | .andRegReg cond sf rn rd rs sh rm => .setA (wordDpRegReg .and cond sf rn rd rs sh rm)
  | .eorImm cond sf rn rd rotate imm8 => .setA (wordDpImm .eor cond sf rn rd rotate imm8)
  | .eorRegImm cond sf rn rd amount sh rm => .setA (wordDpRegImm .eor cond sf rn rd amount sh rm)
  | .eorRegReg cond sf rn rd rs sh rm => .setA (wordDpRegReg .eor cond sf rn rd rs sh rm)
  | .subImm cond sf rn rd rotate imm8 => .setA (wordDpImm .sub cond sf rn rd rotate imm8)
  | .subRegImm cond sf rn rd amount sh rm => .setA (wordDpRegImm .sub cond sf rn rd amount sh rm)
  | .subRegReg cond sf rn rd rs sh rm => .setA (wordDpRegReg .sub cond sf rn rd rs sh rm)
  | .rsbImm cond sf rn rd rotate imm8 => .setA (wordDpImm .rsb cond sf rn rd rotate imm8)
  | .rsbRegImm cond sf rn rd amount sh rm => .setA (wordDpRegImm .rsb cond sf rn rd amount sh rm)
  | .rsbRegReg cond sf rn rd rs sh rm => .setA (wordDpRegReg .rsb cond sf rn rd rs sh rm)
  | .addImm cond sf rn rd rotate imm8 => .setA (wordDpImm .add cond sf rn rd rotate imm8)
  | .addRegImm cond sf rn rd amount sh rm => .setA (wordDpRegImm .add cond sf rn rd amount sh rm)
  | .addRegReg cond sf rn rd rs sh rm => .setA (wordDpRegReg .add cond sf rn rd rs sh rm)
  | .adcImm cond sf rn rd rotate imm8 => .setA (wordDpImm .adc cond sf rn rd rotate imm8)
  | .adcRegImm cond sf rn rd amount sh rm => .setA (wordDpRegImm .adc cond sf rn rd amount sh rm)
  | .adcRegReg cond sf rn rd rs sh rm => .setA (wordDpRegReg .adc cond sf rn rd rs sh rm)
  | .sbcImm cond sf rn rd rotate imm8 => .setA (wordDpImm .sbc cond sf rn rd rotate imm8)
  | .sbcRegImm cond sf rn rd amount sh rm => .setA (wordDpRegImm .sbc cond sf rn rd amount sh rm)
  | .sbcRegReg cond sf rn rd rs sh rm => .setA (wordDpRegReg .sbc cond sf rn rd rs sh rm)
  | .rscImm cond sf rn rd rotate imm8 => .setA (wordDpImm .rsc cond sf rn rd rotate imm8)
  | .rscRegImm cond sf rn rd amount sh rm => .setA (wordDpRegImm .rsc cond sf rn rd amount sh rm)
  | .rscRegReg cond sf rn rd rs sh rm => .setA (wordDpRegReg .rsc cond sf rn rd rs sh rm)
  | .tstImm cond rn rotate imm8 => .setA (wordDpImm .tst cond true rn 0 rotate imm8)
  | .tstRegImm cond rn amount sh rm => .setA (wordDpRegImm .tst cond true rn 0 amount sh rm)
  | .tstRegReg cond rn rs sh rm => .setA (wordDpRegReg .tst cond true rn 0 rs sh rm)
  | .teqImm cond rn rotate imm8 => .setA (wordDpImm .teq cond true rn 0 rotate imm8)
  | .teqRegImm cond rn amount sh rm => .setA (wordDpRegImm .teq cond true rn 0 amount sh rm)
  | .teqRegReg cond rn rs sh rm => .setA (wordDpRegReg .teq cond true rn 0 rs sh rm)
  | .cmpImm cond rn rotate imm8 => .setA (wordDpImm .cmp cond true rn 0 rotate imm8)
  | .cmpRegImm cond rn amount sh rm => .setA (wordDpRegImm .cmp cond true rn 0 amount sh rm)
  | .cmpRegReg cond rn rs sh rm => .setA (wordDpRegReg .cmp cond true rn 0 rs sh rm)
  | .cmnImm cond rn rotate imm8 => .setA (wordDpImm .cmn cond true rn 0 rotate imm8)
  | .cmnRegImm cond rn amount sh rm => .setA (wordDpRegImm .cmn cond true rn 0 amount sh rm)
  | .cmnRegReg cond rn rs sh rm => .setA (wordDpRegReg .cmn cond true rn 0 rs sh rm)
  | .orrImm cond sf rn rd rotate imm8 => .setA (wordDpImm .orr cond sf rn rd rotate imm8)
  | .orrRegImm cond sf rn rd amount sh rm => .setA (wordDpRegImm .orr cond sf rn rd amount sh rm)
  | .orrRegReg cond sf rn rd rs sh rm => .setA (wordDpRegReg .orr cond sf rn rd rs sh rm)
  | .movImm cond sf rd rotate imm8 => .setA (wordDpImm .mov cond sf 0 rd rotate imm8)
  | .movRegImm cond sf rd amount sh rm => .setA (wordDpRegImm .mov cond sf 0 rd amount sh rm)
  | .movRegReg cond sf rd rs sh rm => .setA (wordDpRegReg .mov cond sf 0 rd rs sh rm)
  | .bicImm cond sf rn rd rotate imm8 => .setA (wordDpImm .bic cond sf rn rd rotate imm8)
  | .bicRegImm cond sf rn rd amount sh rm => .setA (wordDpRegImm .bic cond sf rn rd amount sh rm)
  | .bicRegReg cond sf rn rd rs sh rm => .setA (wordDpRegReg .bic cond sf rn rd rs sh rm)
  | .mvnImm cond sf rd rotate imm8 => .setA (wordDpImm .mvn cond sf 0 rd rotate imm8)
  | .mvnRegImm cond sf rd amount sh rm => .setA (wordDpRegImm .mvn cond sf 0 rd amount sh rm)
  | .mvnRegReg cond sf rd rs sh rm => .setA (wordDpRegReg .mvn cond sf 0 rd rs sh rm)
  | .mrs cond psr rd =>
    .setA (put cond.bits 28 ||| put 0b00010#5 23 ||| putBit psr.bit 22 ||| put 0b00#2 20 ||| put 0b1111#4 16 |||
    put (Reg.bits rd) 12 ||| put 0b000000000000#12 0)
  | .msrReg cond psr mask rm =>
    .setA (put cond.bits 28 ||| put 0b00010#5 23 ||| putBit psr.bit 22 ||| put 0b10#2 20 ||| put mask 16 |||
    put 0b1111#4 12 ||| put 0b00000000#8 4 ||| put (Reg.bits rm) 0)
  | .msrImm cond psr mask rotate imm8 =>
    .setA (put cond.bits 28 ||| put 0b00110#5 23 ||| putBit psr.bit 22 ||| put 0b10#2 20 ||| put mask 16 |||
    put 0b1111#4 12 ||| put rotate 8 ||| put imm8 0)
  | .mul cond sf rd rs rm => .setA (wordMul cond false sf rd 0 rs rm)
  | .mla cond sf rd rn rs rm => .setA (wordMul cond true sf rd rn rs rm)
  | .umull cond sf rdHi rdLo rs rm => .setA (wordMull cond false false sf rdHi rdLo rs rm)
  | .umlal cond sf rdHi rdLo rs rm => .setA (wordMull cond false true sf rdHi rdLo rs rm)
  | .smull cond sf rdHi rdLo rs rm => .setA (wordMull cond true false sf rdHi rdLo rs rm)
  | .smlal cond sf rdHi rdLo rs rm => .setA (wordMull cond true true sf rdHi rdLo rs rm)
  | .ldrImmPre cond up wb rn rd offset => .setA (wordSdtImm cond true up false wb true rn rd offset)
  | .ldrImmPost cond up rn rd offset => .setA (wordSdtImm cond false up false false true rn rd offset)
  | .ldrRegPre cond up wb rn rd amount sh rm => .setA (wordSdtReg cond true up false wb true rn rd amount sh rm)
  | .ldrRegPost cond up rn rd amount sh rm => .setA (wordSdtReg cond false up false false true rn rd amount sh rm)
  | .strImmPre cond up wb rn rd offset => .setA (wordSdtImm cond true up false wb false rn rd offset)
  | .strImmPost cond up rn rd offset => .setA (wordSdtImm cond false up false false false rn rd offset)
  | .strRegPre cond up wb rn rd amount sh rm => .setA (wordSdtReg cond true up false wb false rn rd amount sh rm)
  | .strRegPost cond up rn rd amount sh rm => .setA (wordSdtReg cond false up false false false rn rd amount sh rm)
  | .ldrbImmPre cond up wb rn rd offset => .setA (wordSdtImm cond true up true wb true rn rd offset)
  | .ldrbImmPost cond up rn rd offset => .setA (wordSdtImm cond false up true false true rn rd offset)
  | .ldrbRegPre cond up wb rn rd amount sh rm => .setA (wordSdtReg cond true up true wb true rn rd amount sh rm)
  | .ldrbRegPost cond up rn rd amount sh rm => .setA (wordSdtReg cond false up true false true rn rd amount sh rm)
  | .strbImmPre cond up wb rn rd offset => .setA (wordSdtImm cond true up true wb false rn rd offset)
  | .strbImmPost cond up rn rd offset => .setA (wordSdtImm cond false up true false false rn rd offset)
  | .strbRegPre cond up wb rn rd amount sh rm => .setA (wordSdtReg cond true up true wb false rn rd amount sh rm)
  | .strbRegPost cond up rn rd amount sh rm => .setA (wordSdtReg cond false up true false false rn rd amount sh rm)
  | .ldrtImm cond up rn rd offset => .setA (wordSdtImm cond false up false true true rn rd offset)
  | .ldrtReg cond up rn rd amount sh rm => .setA (wordSdtReg cond false up false true true rn rd amount sh rm)
  | .strtImm cond up rn rd offset => .setA (wordSdtImm cond false up false true false rn rd offset)
  | .strtReg cond up rn rd amount sh rm => .setA (wordSdtReg cond false up false true false rn rd amount sh rm)
  | .ldrbtImm cond up rn rd offset => .setA (wordSdtImm cond false up true true true rn rd offset)
  | .ldrbtReg cond up rn rd amount sh rm => .setA (wordSdtReg cond false up true true true rn rd amount sh rm)
  | .strbtImm cond up rn rd offset => .setA (wordSdtImm cond false up true true false rn rd offset)
  | .strbtReg cond up rn rd amount sh rm => .setA (wordSdtReg cond false up true true false rn rd amount sh rm)
  | .strhImm cond pre up wb rn rd offset => .setA (wordHwImm cond false 0b01#2 pre up wb rn rd offset)
  | .strhReg cond pre up wb rn rd rm => .setA (wordHwReg cond false 0b01#2 pre up wb rn rd rm)
  | .ldrhImm cond pre up wb rn rd offset => .setA (wordHwImm cond true 0b01#2 pre up wb rn rd offset)
  | .ldrhReg cond pre up wb rn rd rm => .setA (wordHwReg cond true 0b01#2 pre up wb rn rd rm)
  | .ldrsbImm cond pre up wb rn rd offset => .setA (wordHwImm cond true 0b10#2 pre up wb rn rd offset)
  | .ldrsbReg cond pre up wb rn rd rm => .setA (wordHwReg cond true 0b10#2 pre up wb rn rd rm)
  | .ldrshImm cond pre up wb rn rd offset => .setA (wordHwImm cond true 0b11#2 pre up wb rn rd offset)
  | .ldrshReg cond pre up wb rn rd rm => .setA (wordHwReg cond true 0b11#2 pre up wb rn rd rm)
  | .ldm cond pre up sbit wb rn rlist => .setA (wordBdt cond true pre up sbit wb rn rlist)
  | .stm cond pre up sbit wb rn rlist => .setA (wordBdt cond false pre up sbit wb rn rlist)
  | .swp cond rn rd rm => .setA (wordSwp cond false rn rd rm)
  | .swpb cond rn rd rm => .setA (wordSwp cond true rn rd rm)
  | .b cond offset24 => .setA (put cond.bits 28 ||| put 0b1010#4 24 ||| put offset24 0)
  | .bl cond offset24 => .setA (put cond.bits 28 ||| put 0b1011#4 24 ||| put offset24 0)
  | .bx cond rm =>
    .setA (put cond.bits 28 ||| put 0b00010010#8 20 ||| put 0xFFF#12 8 ||| put 0b0001#4 4 ||| put (Reg.bits rm) 0)
  | .swi cond comment => .setA (put cond.bits 28 ||| put 0b1111#4 24 ||| put comment 0)
  | .und cond hi lo => .setA (put cond.bits 28 ||| put 0b011#3 25 ||| put hi 5 ||| putBit true 4 ||| put lo 0)
  | .ldc cond p u n w rn crd cp offset => .setA (wordCpTransfer cond true p u n w rn crd cp offset)
  | .stc cond p u n w rn crd cp offset => .setA (wordCpTransfer cond false p u n w rn crd cp offset)
  | .cdp cond op1 crn crd cp op2 crm =>
    .setA (put cond.bits 28 ||| put 0b1110#4 24 ||| put op1 20 ||| put crn 16 ||| put crd 12 ||| put cp 8 |||
    put op2 5 ||| putBit false 4 ||| put crm 0)
  | .mcr cond op1 crn rd cp op2 crm => .setA (wordCpRegister cond false op1 crn rd cp op2 crm)
  | .mrc cond op1 crn rd cp op2 crm => .setA (wordCpRegister cond true op1 crn rd cp op2 crm)
  | .unsupportedMultiply word => .setA word
  | .unsupportedSwap word => .setA word
  | .unsupportedHalfwordStore word => .setA word
  | .unsupportedMisc word => .setA word
  | .unsupportedImmMisc word => .setA word
  | .bLslImm offset5 rs rd => .setB (halfFive 0b00000#5 offset5 rs rd)
  | .bLsrImm offset5 rs rd => .setB (halfFive 0b00001#5 offset5 rs rd)
  | .bAsrImm offset5 rs rd => .setB (halfFive 0b00010#5 offset5 rs rd)
  | .bAddReg rn rs rd => .setB (halfThree 0b0001100#7 (LowReg.bits rn) rs rd)
  | .bSubReg rn rs rd => .setB (halfThree 0b0001101#7 (LowReg.bits rn) rs rd)
  | .bAddImm3 imm3 rs rd => .setB (halfThree 0b0001110#7 imm3 rs rd)
  | .bSubImm3 imm3 rs rd => .setB (halfThree 0b0001111#7 imm3 rs rd)
  | .bMovImm8 rd imm8 => .setB (halfEight 0b00100#5 rd imm8)
  | .bCmpImm8 rd imm8 => .setB (halfEight 0b00101#5 rd imm8)
  | .bAddImm8 rd imm8 => .setB (halfEight 0b00110#5 rd imm8)
  | .bSubImm8 rd imm8 => .setB (halfEight 0b00111#5 rd imm8)
  | .bAndAlu rs rd => .setB (halfAlu 0b0000#4 rs rd)
  | .bEorAlu rs rd => .setB (halfAlu 0b0001#4 rs rd)
  | .bLslReg rs rd => .setB (halfAlu 0b0010#4 rs rd)
  | .bLsrReg rs rd => .setB (halfAlu 0b0011#4 rs rd)
  | .bAsrReg rs rd => .setB (halfAlu 0b0100#4 rs rd)
  | .bAdcAlu rs rd => .setB (halfAlu 0b0101#4 rs rd)
  | .bSbcAlu rs rd => .setB (halfAlu 0b0110#4 rs rd)
  | .bRorReg rs rd => .setB (halfAlu 0b0111#4 rs rd)
  | .bTstAlu rs rd => .setB (halfAlu 0b1000#4 rs rd)
  | .bNegAlu rs rd => .setB (halfAlu 0b1001#4 rs rd)
  | .bCmpAlu rs rd => .setB (halfAlu 0b1010#4 rs rd)
  | .bCmnAlu rs rd => .setB (halfAlu 0b1011#4 rs rd)
  | .bOrrAlu rs rd => .setB (halfAlu 0b1100#4 rs rd)
  | .bMulAlu rs rd => .setB (halfAlu 0b1101#4 rs rd)
  | .bBicAlu rs rd => .setB (halfAlu 0b1110#4 rs rd)
  | .bMvnAlu rs rd => .setB (halfAlu 0b1111#4 rs rd)
  | .bAddHi hd hs => .setB (halfHi 0b00#2 hd hs)
  | .bCmpHi hd hs => .setB (halfHi 0b01#2 hd hs)
  | .bMovHi hd hs => .setB (halfHi 0b10#2 hd hs)
  | .bBxHi h1 hs => .setB (halfBx h1 hs)
  | .bLdrPc rd word8 => .setB (halfEight 0b01001#5 rd word8)
  | .bStrReg ro rb rd => .setB (halfThree 0b0101000#7 (LowReg.bits ro) rb rd)
  | .bStrbReg ro rb rd => .setB (halfThree 0b0101010#7 (LowReg.bits ro) rb rd)
  | .bLdrReg ro rb rd => .setB (halfThree 0b0101100#7 (LowReg.bits ro) rb rd)
  | .bLdrbReg ro rb rd => .setB (halfThree 0b0101110#7 (LowReg.bits ro) rb rd)
  | .bStrhReg ro rb rd => .setB (halfThree 0b0101001#7 (LowReg.bits ro) rb rd)
  | .bLdsbReg ro rb rd => .setB (halfThree 0b0101011#7 (LowReg.bits ro) rb rd)
  | .bLdrhReg ro rb rd => .setB (halfThree 0b0101101#7 (LowReg.bits ro) rb rd)
  | .bLdshReg ro rb rd => .setB (halfThree 0b0101111#7 (LowReg.bits ro) rb rd)
  | .bStrImm5 offset5 rb rd => .setB (halfFive 0b01100#5 offset5 rb rd)
  | .bLdrImm5 offset5 rb rd => .setB (halfFive 0b01101#5 offset5 rb rd)
  | .bStrbImm5 offset5 rb rd => .setB (halfFive 0b01110#5 offset5 rb rd)
  | .bLdrbImm5 offset5 rb rd => .setB (halfFive 0b01111#5 offset5 rb rd)
  | .bStrhImm5 offset5 rb rd => .setB (halfFive 0b10000#5 offset5 rb rd)
  | .bLdrhImm5 offset5 rb rd => .setB (halfFive 0b10001#5 offset5 rb rd)
  | .bStrSp rd word8 => .setB (halfEight 0b10010#5 rd word8)
  | .bLdrSp rd word8 => .setB (halfEight 0b10011#5 rd word8)
  | .bAddPc rd word8 => .setB (halfEight 0b10100#5 rd word8)
  | .bAddSp rd word8 => .setB (halfEight 0b10101#5 rd word8)
  | .bAddSpImm sword7 => .setB (put 0b101100000#9 7 ||| put sword7 0)
  | .bSubSpImm sword7 => .setB (put 0b101100001#9 7 ||| put sword7 0)
  | .bPush r rlist => .setB (halfPushPop false r rlist)
  | .bPop r rlist => .setB (halfPushPop true r rlist)
  | .bStmia rb rlist => .setB (halfEight 0b11000#5 rb rlist)
  | .bLdmia rb rlist => .setB (halfEight 0b11001#5 rb rlist)
  | .bBeq soffset8 => .setB (halfCondBranch .eq soffset8)
  | .bBne soffset8 => .setB (halfCondBranch .ne soffset8)
  | .bBcs soffset8 => .setB (halfCondBranch .cs soffset8)
  | .bBcc soffset8 => .setB (halfCondBranch .cc soffset8)
  | .bBmi soffset8 => .setB (halfCondBranch .mi soffset8)
  | .bBpl soffset8 => .setB (halfCondBranch .pl soffset8)
  | .bBvs soffset8 => .setB (halfCondBranch .vs soffset8)
  | .bBvc soffset8 => .setB (halfCondBranch .vc soffset8)
  | .bBhi soffset8 => .setB (halfCondBranch .hi soffset8)
  | .bBls soffset8 => .setB (halfCondBranch .ls soffset8)
  | .bBge soffset8 => .setB (halfCondBranch .ge soffset8)
  | .bBlt soffset8 => .setB (halfCondBranch .lt soffset8)
  | .bBgt soffset8 => .setB (halfCondBranch .gt soffset8)
  | .bBle soffset8 => .setB (halfCondBranch .le soffset8)
  | .bSwi value8 => .setB (put 0b11011111#8 8 ||| put value8 0)
  | .bB offset11 => .setB (halfEleven 0b11100#5 offset11)
  | .bBlPrefix offset11 => .setB (halfEleven 0b11110#5 offset11)
  | .bBlSuffix offset11 => .setB (halfEleven 0b11111#5 offset11)
  | .bUnd half => .setB half

/-- The row's name in the spec's opcode table, which the trace sink is given (R515, assumption log 15). -/
def Instr.mnemonic : Instr → String
  | .andImm _ _ _ _ _ _ => "AND (imm)"
  | .andRegImm _ _ _ _ _ _ _ => "AND (reg-imm-shift)"
  | .andRegReg _ _ _ _ _ _ _ => "AND (reg-reg-shift)"
  | .eorImm _ _ _ _ _ _ => "EOR (imm)"
  | .eorRegImm _ _ _ _ _ _ _ => "EOR (reg-imm-shift)"
  | .eorRegReg _ _ _ _ _ _ _ => "EOR (reg-reg-shift)"
  | .subImm _ _ _ _ _ _ => "SUB (imm)"
  | .subRegImm _ _ _ _ _ _ _ => "SUB (reg-imm-shift)"
  | .subRegReg _ _ _ _ _ _ _ => "SUB (reg-reg-shift)"
  | .rsbImm _ _ _ _ _ _ => "RSB (imm)"
  | .rsbRegImm _ _ _ _ _ _ _ => "RSB (reg-imm-shift)"
  | .rsbRegReg _ _ _ _ _ _ _ => "RSB (reg-reg-shift)"
  | .addImm _ _ _ _ _ _ => "ADD (imm)"
  | .addRegImm _ _ _ _ _ _ _ => "ADD (reg-imm-shift)"
  | .addRegReg _ _ _ _ _ _ _ => "ADD (reg-reg-shift)"
  | .adcImm _ _ _ _ _ _ => "ADC (imm)"
  | .adcRegImm _ _ _ _ _ _ _ => "ADC (reg-imm-shift)"
  | .adcRegReg _ _ _ _ _ _ _ => "ADC (reg-reg-shift)"
  | .sbcImm _ _ _ _ _ _ => "SBC (imm)"
  | .sbcRegImm _ _ _ _ _ _ _ => "SBC (reg-imm-shift)"
  | .sbcRegReg _ _ _ _ _ _ _ => "SBC (reg-reg-shift)"
  | .rscImm _ _ _ _ _ _ => "RSC (imm)"
  | .rscRegImm _ _ _ _ _ _ _ => "RSC (reg-imm-shift)"
  | .rscRegReg _ _ _ _ _ _ _ => "RSC (reg-reg-shift)"
  | .tstImm _ _ _ _ => "TST (imm)"
  | .tstRegImm _ _ _ _ _ => "TST (reg-imm-shift)"
  | .tstRegReg _ _ _ _ _ => "TST (reg-reg-shift)"
  | .teqImm _ _ _ _ => "TEQ (imm)"
  | .teqRegImm _ _ _ _ _ => "TEQ (reg-imm-shift)"
  | .teqRegReg _ _ _ _ _ => "TEQ (reg-reg-shift)"
  | .cmpImm _ _ _ _ => "CMP (imm)"
  | .cmpRegImm _ _ _ _ _ => "CMP (reg-imm-shift)"
  | .cmpRegReg _ _ _ _ _ => "CMP (reg-reg-shift)"
  | .cmnImm _ _ _ _ => "CMN (imm)"
  | .cmnRegImm _ _ _ _ _ => "CMN (reg-imm-shift)"
  | .cmnRegReg _ _ _ _ _ => "CMN (reg-reg-shift)"
  | .orrImm _ _ _ _ _ _ => "ORR (imm)"
  | .orrRegImm _ _ _ _ _ _ _ => "ORR (reg-imm-shift)"
  | .orrRegReg _ _ _ _ _ _ _ => "ORR (reg-reg-shift)"
  | .movImm _ _ _ _ _ => "MOV (imm)"
  | .movRegImm _ _ _ _ _ _ => "MOV (reg-imm-shift)"
  | .movRegReg _ _ _ _ _ _ => "MOV (reg-reg-shift)"
  | .bicImm _ _ _ _ _ _ => "BIC (imm)"
  | .bicRegImm _ _ _ _ _ _ _ => "BIC (reg-imm-shift)"
  | .bicRegReg _ _ _ _ _ _ _ => "BIC (reg-reg-shift)"
  | .mvnImm _ _ _ _ _ => "MVN (imm)"
  | .mvnRegImm _ _ _ _ _ _ => "MVN (reg-imm-shift)"
  | .mvnRegReg _ _ _ _ _ _ => "MVN (reg-reg-shift)"
  | .mrs _ _ _ => "MRS"
  | .msrReg _ _ _ _ => "MSR (reg)"
  | .msrImm _ _ _ _ _ => "MSR (imm)"
  | .mul _ _ _ _ _ => "MUL"
  | .mla _ _ _ _ _ _ => "MLA"
  | .umull _ _ _ _ _ _ => "UMULL"
  | .umlal _ _ _ _ _ _ => "UMLAL"
  | .smull _ _ _ _ _ _ => "SMULL"
  | .smlal _ _ _ _ _ _ => "SMLAL"
  | .ldrImmPre _ _ _ _ _ _ => "LDR (imm, pre)"
  | .ldrImmPost _ _ _ _ _ => "LDR (imm, post)"
  | .ldrRegPre _ _ _ _ _ _ _ _ => "LDR (reg, pre)"
  | .ldrRegPost _ _ _ _ _ _ _ => "LDR (reg, post)"
  | .strImmPre _ _ _ _ _ _ => "STR (imm, pre)"
  | .strImmPost _ _ _ _ _ => "STR (imm, post)"
  | .strRegPre _ _ _ _ _ _ _ _ => "STR (reg, pre)"
  | .strRegPost _ _ _ _ _ _ _ => "STR (reg, post)"
  | .ldrbImmPre _ _ _ _ _ _ => "LDRB (imm, pre)"
  | .ldrbImmPost _ _ _ _ _ => "LDRB (imm, post)"
  | .ldrbRegPre _ _ _ _ _ _ _ _ => "LDRB (reg, pre)"
  | .ldrbRegPost _ _ _ _ _ _ _ => "LDRB (reg, post)"
  | .strbImmPre _ _ _ _ _ _ => "STRB (imm, pre)"
  | .strbImmPost _ _ _ _ _ => "STRB (imm, post)"
  | .strbRegPre _ _ _ _ _ _ _ _ => "STRB (reg, pre)"
  | .strbRegPost _ _ _ _ _ _ _ => "STRB (reg, post)"
  | .ldrtImm _ _ _ _ _ => "LDRT (imm)"
  | .ldrtReg _ _ _ _ _ _ _ => "LDRT (reg)"
  | .strtImm _ _ _ _ _ => "STRT (imm)"
  | .strtReg _ _ _ _ _ _ _ => "STRT (reg)"
  | .ldrbtImm _ _ _ _ _ => "LDRBT (imm)"
  | .ldrbtReg _ _ _ _ _ _ _ => "LDRBT (reg)"
  | .strbtImm _ _ _ _ _ => "STRBT (imm)"
  | .strbtReg _ _ _ _ _ _ _ => "STRBT (reg)"
  | .strhImm _ _ _ _ _ _ _ => "STRH (imm)"
  | .strhReg _ _ _ _ _ _ _ => "STRH (reg)"
  | .ldrhImm _ _ _ _ _ _ _ => "LDRH (imm)"
  | .ldrhReg _ _ _ _ _ _ _ => "LDRH (reg)"
  | .ldrsbImm _ _ _ _ _ _ _ => "LDRSB (imm)"
  | .ldrsbReg _ _ _ _ _ _ _ => "LDRSB (reg)"
  | .ldrshImm _ _ _ _ _ _ _ => "LDRSH (imm)"
  | .ldrshReg _ _ _ _ _ _ _ => "LDRSH (reg)"
  | .ldm _ _ _ _ _ _ _ => "LDM"
  | .stm _ _ _ _ _ _ _ => "STM"
  | .swp _ _ _ _ => "SWP"
  | .swpb _ _ _ _ => "SWPB"
  | .b _ _ => "B"
  | .bl _ _ => "BL"
  | .bx _ _ => "BX"
  | .swi _ _ => "SWI"
  | .und _ _ _ => "UND"
  | .ldc _ _ _ _ _ _ _ _ _ => "LDC"
  | .stc _ _ _ _ _ _ _ _ _ => "STC"
  | .cdp _ _ _ _ _ _ _ => "CDP"
  | .mcr _ _ _ _ _ _ _ => "MCR"
  | .mrc _ _ _ _ _ _ _ => "MRC"
  | .unsupportedMultiply _ => "Unsupported (reserved multiply)"
  | .unsupportedSwap _ => "Unsupported (reserved swap)"
  | .unsupportedHalfwordStore _ => "Unsupported (reserved halfword store)"
  | .unsupportedMisc _ => "Unsupported (reserved misc)"
  | .unsupportedImmMisc _ => "Unsupported (reserved immediate misc)"
  | .bLslImm _ _ _ => "LSL (imm)"
  | .bLsrImm _ _ _ => "LSR (imm)"
  | .bAsrImm _ _ _ => "ASR (imm)"
  | .bAddReg _ _ _ => "ADD (reg)"
  | .bSubReg _ _ _ => "SUB (reg)"
  | .bAddImm3 _ _ _ => "ADD (imm3)"
  | .bSubImm3 _ _ _ => "SUB (imm3)"
  | .bMovImm8 _ _ => "MOV (imm8)"
  | .bCmpImm8 _ _ => "CMP (imm8)"
  | .bAddImm8 _ _ => "ADD (imm8)"
  | .bSubImm8 _ _ => "SUB (imm8)"
  | .bAndAlu _ _ => "AND (alu)"
  | .bEorAlu _ _ => "EOR (alu)"
  | .bLslReg _ _ => "LSL (reg)"
  | .bLsrReg _ _ => "LSR (reg)"
  | .bAsrReg _ _ => "ASR (reg)"
  | .bAdcAlu _ _ => "ADC (alu)"
  | .bSbcAlu _ _ => "SBC (alu)"
  | .bRorReg _ _ => "ROR (reg)"
  | .bTstAlu _ _ => "TST (alu)"
  | .bNegAlu _ _ => "NEG (alu)"
  | .bCmpAlu _ _ => "CMP (alu)"
  | .bCmnAlu _ _ => "CMN (alu)"
  | .bOrrAlu _ _ => "ORR (alu)"
  | .bMulAlu _ _ => "MUL (alu)"
  | .bBicAlu _ _ => "BIC (alu)"
  | .bMvnAlu _ _ => "MVN (alu)"
  | .bAddHi _ _ => "ADD (hi)"
  | .bCmpHi _ _ => "CMP (hi)"
  | .bMovHi _ _ => "MOV (hi)"
  | .bBxHi _ _ => "BX (hi)"
  | .bLdrPc _ _ => "LDR (pc)"
  | .bStrReg _ _ _ => "STR (reg)"
  | .bStrbReg _ _ _ => "STRB (reg)"
  | .bLdrReg _ _ _ => "LDR (reg)"
  | .bLdrbReg _ _ _ => "LDRB (reg)"
  | .bStrhReg _ _ _ => "STRH (reg)"
  | .bLdsbReg _ _ _ => "LDSB (reg)"
  | .bLdrhReg _ _ _ => "LDRH (reg)"
  | .bLdshReg _ _ _ => "LDSH (reg)"
  | .bStrImm5 _ _ _ => "STR (imm5)"
  | .bLdrImm5 _ _ _ => "LDR (imm5)"
  | .bStrbImm5 _ _ _ => "STRB (imm5)"
  | .bLdrbImm5 _ _ _ => "LDRB (imm5)"
  | .bStrhImm5 _ _ _ => "STRH (imm5)"
  | .bLdrhImm5 _ _ _ => "LDRH (imm5)"
  | .bStrSp _ _ => "STR (sp)"
  | .bLdrSp _ _ => "LDR (sp)"
  | .bAddPc _ _ => "ADD (pc)"
  | .bAddSp _ _ => "ADD (sp)"
  | .bAddSpImm _ => "ADD (sp imm)"
  | .bSubSpImm _ => "SUB (sp imm)"
  | .bPush _ _ => "PUSH"
  | .bPop _ _ => "POP"
  | .bStmia _ _ => "STMIA"
  | .bLdmia _ _ => "LDMIA"
  | .bBeq _ => "BEQ"
  | .bBne _ => "BNE"
  | .bBcs _ => "BCS"
  | .bBcc _ => "BCC"
  | .bBmi _ => "BMI"
  | .bBpl _ => "BPL"
  | .bBvs _ => "BVS"
  | .bBvc _ => "BVC"
  | .bBhi _ => "BHI"
  | .bBls _ => "BLS"
  | .bBge _ => "BGE"
  | .bBlt _ => "BLT"
  | .bBgt _ => "BGT"
  | .bBle _ => "BLE"
  | .bSwi _ => "SWI (B)"
  | .bB _ => "B (B)"
  | .bBlPrefix _ => "BL (prefix)"
  | .bBlSuffix _ => "BL (suffix)"
  | .bUnd _ => "UND (B)"

end Sys2Proof
end

