-- ==== Sys2Proof/Machine/Memory.lean ====
section
/-! DEFINITION. The bytes behind the memory port (R81): a list of cells in one canonical form, and the little-endian
accesses of the port (R82-R84).  The collaborator itself is out of scope (R6); the model puts plain memory there
(assumption log 5). -/

namespace Sys2Proof.Machine

/-- The listed bytes of the 2^32-byte address space. -/
abbrev Memory := List Host.Cell

namespace Memory

/-- What an address that is not listed reads as.  DESIGN CHOICE (assumption log 4): the spec gives memory no reset
contents. -/
def fill : Byte := 0#8

/-- The byte at an address. -/
def byteAt : Memory → Nat → Byte
  | [], _ => fill
  | (key, b) :: rest, a => if a = key then b else byteAt rest a

/-- Write one byte, keeping the canonical form: a byte equal to `fill` is not listed. -/
def setByte : Memory → Nat → Byte → Memory
  | [], a, v => if v = fill then [] else [(a, v)]
  | (key, b) :: rest, a, v =>
    if a < key then
      if v = fill then (key, b) :: rest else (a, v) :: (key, b) :: rest
    else if a = key then
      if v = fill then rest else (a, v) :: rest
    else (key, b) :: setByte rest a v

/-- The canonical form from address `low` on: keys rising, inside the address space (R81), no listed `fill`. -/
def wfFrom (low : Nat) : Memory → Bool
  | [] => true
  | (key, b) :: rest => decide (low ≤ key) && decide (key < 2 ^ 32) && decide (b ≠ fill) && wfFrom (key + 1) rest

/-- The canonical form. -/
def wf (m : Memory) : Bool := wfFrom 0 m

end Memory

/-- The three widths of the memory port (R80). -/
inductive Width
  | byte | half | word
  deriving DecidableEq, Repr

/-- The number of bytes of an access (R80). -/
def Width.bytes : Width → Nat
  | .byte => 1
  | .half => 2
  | .word => 4

/-- `addr & ~(n - 1)`: the address an access of this width reaches (R83, R84). -/
def Width.alignDown (k : Width) (a : Word) : Word := a &&& ~~~(BitVec.ofNat 32 k.bytes - 1#32)

/-- A range of addresses that the memory collaborator does not keep as plain memory: registers of a device, a read-only
region, what another bus master writes (R6, R81, R94; assumption log 5). -/
structure Region where
  base : Nat
  size : Nat
  deriving DecidableEq, Repr

/-- An access of this width (R83) reaches a byte of the region. -/
def Region.touches (g : Region) (k : Width) (a : Word) : Bool :=
  decide ((k.alignDown a).toNat < g.base + g.size) && decide (g.base < (k.alignDown a).toNat + k.bytes)

/-- `v[8n-1:0]`, zero-extended: the data of a write of this width (R84). -/
def Width.lowBits (k : Width) (v : Word) : Word :=
  match k with
  | .byte => (field v 0 8).setWidth 32
  | .half => (field v 0 16).setWidth 32
  | .word => v

/-- The `n` bytes from address `a`, little-endian (R82). -/
def Memory.readBytes (m : Memory) (a : Nat) : Nat → Nat
  | 0 => 0
  | n + 1 => (m.byteAt a).toNat + 256 * m.readBytes (a + 1) n

/-- `MemRead(addr, n)` (R83): the little-endian value at the aligned-down address, zero-extended. -/
def Memory.read (m : Memory) (k : Width) (a : Word) : Word :=
  BitVec.ofNat 32 (m.readBytes (k.alignDown a).toNat k.bytes)

/-- Write the low `n` bytes of `v` from address `a`, little-endian (R82). -/
def Memory.writeBytes (m : Memory) (a : Nat) (v : Word) : Nat → Nat → Memory
  | _, 0 => m
  | k, n + 1 => (m.setByte (a + k) (byteOf v k)).writeBytes a v (k + 1) n

/-- `MemWrite(addr, n, v)` (R84): the low `n` bytes of `v` at the aligned-down address, unrotated. -/
def Memory.write (m : Memory) (k : Width) (a : Word) (v : Word) : Memory :=
  m.writeBytes (k.alignDown a).toNat v 0 k.bytes

end Sys2Proof.Machine
end

