-- ==== Sys2Proof/Config.lean ====
section
/-! DEFINITION. What an implementation fixes (the parameters of rule R12) and the free values of the model.
The numbers the parameters take stand in Machine/Params.lean. -/

namespace Sys2Proof.Config

/-- The 32-bit draw number `n`: rule R17's free input under no law.  FREE VALUE (assumption log 1): no body, so
nothing can be proved of it.  Used for the base register and the stored base word of rules R313, R443 and R444. -/
opaque drawWord : Nat → Word

/-- The 1-bit draw number `n`: rule R17's free input under no law.  FREE VALUE (assumption log 1).  Used for C and V
after a flag-setting multiply (rule R278). -/
opaque drawBit : Nat → Bool

/-- What the host's halt task answers to the poll made when `n` free values have been used: rule R547, "an input from
the host, a draw of one bit per poll".  FREE VALUE (assumption log 2). -/
opaque haltAnswer : Nat → Bool

/-- What the memory collaborator answers to the port call made after `n` others, at an address it does not keep as plain
memory: the oracle for reads of rule R85.  FREE VALUE (assumption log 24). -/
opaque portAnswer : Nat → Word

/-- The OPEN parameters of `start()` (rules R12, R530 and R531). -/
structure StartParams where
  /-- ENTRY_ADDRESS -/
  entry : Word
  /-- SP_SVC_INIT -/
  spSvc : Word
  /-- SP_IRQ_INIT -/
  spIrq : Word
  /-- SP_USR_INIT -/
  spUsr : Word
  deriving DecidableEq, Repr

/-- The parameter COPROC_POLICY (rule R348). -/
inductive CoprocPolicy
  /-- a coprocessor word takes the undefined-instruction trap -/
  | undefinedTrap
  /-- a coprocessor word stops the core as an Unsupported encoding -/
  | unsupported
  deriving DecidableEq, Repr

/-- The OPEN parameter INIRQ_MEANING (rule R561): what `inIRQ()` reports. -/
inductive InIrqMeaning
  /-- the irq line is raised -/
  | line
  /-- CPSR.M is IRQ -/
  | mode
  deriving DecidableEq, Repr

end Sys2Proof.Config
end

