-- ==== Sys2Proof/Machine/Params.lean ====
section
/-! DEFINITION. The values the parameters of rule R12 take in this model, and the addresses the core fixes (R95). -/

namespace Sys2Proof.Machine

/-- STORE_PC_OFFSET (R12, R293): a store of R15 writes the instruction's address plus 12. -/
def storePcOffset : Word := 12#32

/-- COPROC_POLICY (R12, R348). -/
def coprocPolicy : Config.CoprocPolicy := .undefinedTrap

/-- The vector of the undefined-instruction exception (R95, R480). -/
def undefinedVector : Word := 0x00000004#32

/-- The vector of the software interrupt (R95, R480). -/
def swiVector : Word := 0x00000008#32

/-- The vector of IRQ (R95, R480). -/
def irqVector : Word := 0x00000018#32

/-- The OPEN parameters of `start()` in `State.reset`.  DESIGN CHOICE (assumption log 3): the values the spec suggests
(R12) and the entry address of its scenario (R531). -/
def defaultStart : Config.StartParams :=
  { entry := 0x00000000#32, spSvc := 0x03007FE0#32, spIrq := 0x03007FA0#32, spUsr := 0x03007F00#32 }

end Sys2Proof.Machine
end

