-- ==== Sys2Proof/Machine/State.lean ====
section
/-! DEFINITION. The state of the core as plain data: every piece of state the spec gives it (10_state.md R30-R57,
60_exceptions.md R515, 70_reset_and_hazards.md R532), the stops, and the state after reset (R55, R530). -/

namespace Sys2Proof.Machine

/-- The seven modes (R44). -/
inductive Mode
  | user | fiq | irq | supervisor | abort | undefined | system
  deriving DecidableEq, Repr

/-- The operand restriction an Unpredictable stop reports (R17; assumption log 20). -/
inductive Reason
  /-- no SPSR in User or System mode (R34, R221, R240, R242) -/
  | noSpsr
  /-- R15 in the register-shifted-by-register form (R198, R223) -/
  | registerShiftR15
  /-- MRS with Rd = 15 (R240) -/
  | mrsToR15
  /-- MSR with Rm = 15 (R243) -/
  | msrFromR15
  /-- an MSR or a host write that would change CPSR.T (R241, R563) -/
  | msrChangesT
  /-- the multiply operand constraints (R270) and Set-B MUL with Rd = Rs (R161) -/
  | multiplyOperands
  /-- a register offset that is R15 (R292, R302) -/
  | offsetR15
  /-- write-back to R15 (R292, R302) -/
  | writebackR15
  /-- write-back to the data register (R292, R302) -/
  | writebackToData
  /-- a byte or halfword transfer of R15 (R292, R302) -/
  | narrowR15
  /-- a halfword transfer with P = 0 and W = 1 (R302) -/
  | halfwordTVariant
  /-- a block transfer with Rn = 15 (R314) -/
  | blockBaseR15
  /-- an empty register list (R161, R314) -/
  | emptyList
  /-- a block transfer with S = 1 in User or System mode (R314) -/
  | userBankMode
  /-- the user-bank form with write-back (R314) -/
  | userBankWriteback
  /-- the swap operand restrictions (R320) -/
  | swapOperands
  /-- BX to a Set-A target with bit 1 set (R342, R401) -/
  | bxMisaligned
  /-- F5 BX with H1 = 1 (R161, R401) -/
  | bxHighBit
  /-- F5 ADD, CMP or MOV with two low registers (R161, R398-R400) -/
  | hiOpLowRegisters
  deriving DecidableEq, Repr

/-- Why the core stops for good (R17, R54, R483).  All are the spec's own stops, so stopping is safe. -/
inductive Fault
  /-- Raised by the five Unsupported classes, with the instruction's address and word (R350).  Safe. -/
  | unsupported (address word : Word)
  /-- Raised by an operand restriction, with the address, the word and the reason (R17, R483).  Safe. -/
  | unpredictable (address word : Word) (reason : Reason)
  /-- Raised by a write that would leave CPSR.M outside the seven modes, with the value (R45).  Safe. -/
  | invalidMode (value : Word)
  /-- Raised by the memory collaborator, never by an instruction, with whatever the collaborator raises (R86, R483), a text
of its own (assumption log 7).  Safe: it only stops. -/
  | memoryPort (raised : String)
  deriving DecidableEq, Repr

/-- Why a step has no meaning. -/
inductive Refusal
  /-- Raised by an arm of `exec` whose instruction is not modelled yet; no arm raises it now.  Safe: it only stops. -/
  | notModelled (mnemonic : String)
  deriving DecidableEq, Repr

/-- The driver's state (R51, R54). -/
inductive Driver
  | stopped
  | running
  | halted
  | faulted (record : Fault)
  deriving DecidableEq, Repr

/-- One call of the memory port (R80), with the address the core gives it (R97; assumption log 6). -/
inductive PortCall
  | get (width : Width) (address : Word)
  | set (width : Width) (address value : Word)
  deriving DecidableEq, Repr

/-- What the trace sink is told of an instruction (R515). -/
structure TraceCall where
  address : Word
  word : Word
  mnemonic : String
  deriving DecidableEq, Repr

/-- The state of the core and of the memory behind its port. -/
structure State where
  /-- the 37 register slots, numbered as R32 numbers them: 15 is R15, 16 is CPSR -/
  slots : Vector Word 37
  /-- the word to execute next (R49) -/
  decoded : Word
  /-- the word after it (R49) -/
  prefetched : Word
  /-- R15 was written since the last refill (R37, R49) -/
  branchPending : Bool
  /-- the driver's state (R51, R54) -/
  driver : Driver
  /-- the host asked the core to stop (R53) -/
  stopRequest : Bool
  /-- the interrupt line (R52) -/
  irqLine : Bool
  /-- the host asked the core to halt (R52) -/
  haltFlag : Bool
  /-- a halt task is set (R532, R547) -/
  haltTask : Bool
  /-- the bytes last written behind the memory port (R81) -/
  mem : Memory
  /-- where the collaborator answers a read as it likes (R85); the model's own field (assumption log 5) -/
  regions : List Region
  /-- the calls made at the memory port, newest first (R85, R92); the model's own field (assumption log 6) -/
  port : List PortCall
  /-- what the attached trace sink was told, newest first; none when no sink is attached (R515) -/
  trace : Option (List TraceCall)
  /-- how many free values have been used; the model's own field (R17, assumption log 1) -/
  draws : Nat
  deriving DecidableEq, Repr

namespace State

/-- The core as constructed: everything 0, Stopped, no halt task (R532). -/
def constructed : State :=
  { slots := Vector.replicate 37 0#32, decoded := 0#32, prefetched := 0#32, branchPending := false, driver := .stopped,
    stopRequest := false, irqLine := false, haltFlag := false, haltTask := false, mem := [], regions := [], port := [], trace := none,
    draws := 0 }

/-- The core right after reset, that is after `start()` (R55, R530), with nothing in memory (assumption logs 3, 4, 18):
the two fetches of the refill have read the unlisted words at 0 and 4. -/
def reset : State :=
  { slots := #v[
      0#32, 0#32, 0#32, 0#32, 0#32, 0#32, 0#32, 0#32, 0#32, 0#32, 0#32, 0#32, 0#32, defaultStart.spUsr, 0#32,
      defaultStart.entry + 8#32, 0x0000001F#32,
      0#32, 0#32, 0#32, 0#32, 0#32, 0#32, 0#32, 0#32,
      defaultStart.spSvc, 0#32, 0#32, 0#32, 0#32, 0#32,
      defaultStart.spIrq, 0#32, 0#32, 0#32, 0#32, 0#32],
    decoded := 0#32, prefetched := 0#32, branchPending := false, driver := .running, stopRequest := false,
    irqLine := false, haltFlag := false, haltTask := false, mem := [], regions := [],
    port := [.get .word (defaultStart.entry + 4#32), .get .word defaultStart.entry], trace := none, draws := 0 }

end State

end Sys2Proof.Machine
end

