-- ==== Sys2Proof/Machine/Ops.lean ====
section
/-! DEFINITION. The named operations over registers, status words, memory and the free values; taking an exception
(R485) and returning from one (R221); the two instruction outcomes that are not a next state (R17). -/

namespace Sys2Proof.Machine

/-- How a step or an instruction ends (R17, R541). -/
abbrev Result := Host.Outcome State Fault Refusal

/-! ### Modes and banking (R33, R44) -/

/-- The mode of `M[4:0]`; none outside the seven values (R44, R45). -/
def Mode.ofBits (m : BitVec 5) : Option Mode :=
  if m = 0b10000#5 then some .user
  else if m = 0b10001#5 then some .fiq
  else if m = 0b10010#5 then some .irq
  else if m = 0b10011#5 then some .supervisor
  else if m = 0b10111#5 then some .abort
  else if m = 0b11011#5 then some .undefined
  else if m = 0b11111#5 then some .system
  else none

/-- `M[4:0]` of a mode (R44). -/
def Mode.bits : Mode → BitVec 5
  | .user => 0b10000#5
  | .fiq => 0b10001#5
  | .irq => 0b10010#5
  | .supervisor => 0b10011#5
  | .abort => 0b10111#5
  | .undefined => 0b11011#5
  | .system => 0b11111#5

/-- The slot of SPSR in a mode; User and System have none (R32, R33, R34). -/
def Mode.spsrSlot : Mode → Option (Fin 37)
  | .user => none
  | .system => none
  | .fiq => some 24
  | .supervisor => some 27
  | .abort => some 30
  | .irq => some 33
  | .undefined => some 36

/-- The slot of R13 in a mode other than FIQ, whose R14 follows it (R32). -/
def Mode.spSlot : Mode → Nat
  | .user => 13
  | .system => 13
  | .fiq => 22
  | .supervisor => 25
  | .abort => 28
  | .irq => 31
  | .undefined => 34

/-- The banking map for R0-R15 (R33): FIQ banks R8-R14, the other exception modes R13 and R14. -/
def regSlot (m : Mode) (r : Reg) : Fin 37 :=
  if r.val = 15 then 15
  else if r.val = 13 ∨ r.val = 14 then Fin.ofNat 37 (m.spSlot + (r.val - 13))
  else if m = .fiq ∧ 8 ≤ r.val then Fin.ofNat 37 (17 + (r.val - 8))
  else Fin.ofNat 37 r.val

/-- `physicalSlot(mode, i)` for the logical indices 0-17 (R31, R33); none where the mode has no SPSR. -/
def physicalSlot (m : Mode) (i : Fin 18) : Option (Fin 37) :=
  if i.val = 16 then some 16
  else if i.val = 17 then m.spsrSlot
  else some (regSlot m (Fin.ofNat 16 i.val))

/-- A status word whose mode field is one of the seven (R45). -/
def validMode (w : Word) : Bool := (Mode.ofBits (field w 0 5)).isSome

namespace State

/-! ### Slots and status words -/

/-- A register slot. -/
def slot (s : State) (k : Fin 37) : Word := s.slots[k]

/-- Write a register slot. -/
def setSlot (s : State) (k : Fin 37) (v : Word) : State := { s with slots := s.slots.set k.val v k.isLt }

/-- CPSR (R31, R40). -/
def cpsr (s : State) : Word := s.slot 16

/-- Write all 32 bits of CPSR. -/
def setCpsr (s : State) (v : Word) : State := s.setSlot 16 v

/-- CPSR.N (R40). -/
def flagN (s : State) : Bool := bit s.cpsr 31

/-- CPSR.Z (R40). -/
def flagZ (s : State) : Bool := bit s.cpsr 30

/-- CPSR.C (R40). -/
def flagC (s : State) : Bool := bit s.cpsr 29

/-- CPSR.V (R40). -/
def flagV (s : State) : Bool := bit s.cpsr 28

/-- CPSR.I (R40, R42). -/
def ibit (s : State) : Bool := bit s.cpsr 7

/-- CPSR.T (R40, R41). -/
def tbit (s : State) : Bool := bit s.cpsr 5

/-- CPSR.M (R40). -/
def modeBits (s : State) : BitVec 5 := field s.cpsr 0 5

/-- The mode whose bank a register access reaches.  With CPSR.M outside the seven values, which no run reaches (R45),
the base bank (assumption log 11). -/
def bank (s : State) : Mode := (Mode.ofBits s.modeBits).getD .user

/-- `inc` (R15): the active set's instruction width. -/
def inc (s : State) : Word := if s.tbit then 2#32 else 4#32

/-- The port width of a fetch (R90). -/
def fetchWidth (s : State) : Width := if s.tbit then .half else .word

/-- `A`, the address of the instruction being executed (R15, R36): slot 15 less two instruction widths. -/
def instrAddr (s : State) : Word := s.slot 15 - 2#32 * s.inc

/-! ### Registers (R33, R35-R37) -/

/-- `x[i]` (R15): the register in the current mode's bank; x[15] is slot 15, which holds A + 2*inc (R36). -/
def reg (s : State) (r : Reg) : Word := s.slot (regSlot s.bank r)

/-- `pc <- v` (R37). -/
def writePc (s : State) (v : Word) : State := { s.setSlot 15 v with branchPending := true }

/-- `x[i] <- v` (R15); a write of x[15] is `pc <- v`. -/
def setReg (s : State) (r : Reg) (v : Word) : State :=
  if r.val = 15 then s.writePc v else s.setSlot (regSlot s.bank r) v

/-- `x_user[i]` (R15): the User-mode bank, whatever the mode. -/
def userReg (s : State) (r : Reg) : Word := s.slot (regSlot .user r)

/-- `x_user[i] <- v` (R15). -/
def setUserReg (s : State) (r : Reg) (v : Word) : State :=
  if r.val = 15 then s.writePc v else s.setSlot (regSlot .user r) v

/-- A low register of Set-B (R370). -/
def low (s : State) (r : LowReg) : Word := s.reg (Fin.ofNat 16 r.val)

/-- Write a low register of Set-B (R370). -/
def setLow (s : State) (r : LowReg) (v : Word) : State := s.setReg (Fin.ofNat 16 r.val) v

/-- The data STR and STM store for a register: R15 stores `A + STORE_PC_OFFSET` (R293). -/
def storeReg (s : State) (r : Reg) : Word := if r.val = 15 then s.instrAddr + storePcOffset else s.reg r

/-- `x[17]`, SPSR of the current mode; none in User and System (R34). -/
def spsr (s : State) : Option Word := s.bank.spsrSlot.map s.slot

/-- `x[17] <- v`: SPSR of the current mode, where it has one (R34, R47). -/
def setSpsr (s : State) (v : Word) : State :=
  match s.bank.spsrSlot with
  | some k => s.setSlot k v
  | none => s

/-- `CPSR.M <- mode` (R33: the map changes for every later access). -/
def setMode (s : State) (m : Mode) : State := s.setCpsr ((s.cpsr &&& ~~~0x1F#32) ||| m.bits.setWidth 32)

/-- `CPSR.T <- b` (R41). -/
def setT (s : State) (b : Bool) : State := s.setCpsr (withBit s.cpsr 5 b)

/-- `CPSR.I <- b` (R42). -/
def setI (s : State) (b : Bool) : State := s.setCpsr (withBit s.cpsr 7 b)

/-! ### Memory port (R80-R92) -/

/-- The collaborator does not keep what the access reaches as plain memory (assumption log 5). -/
def isExternal (s : State) (k : Width) (a : Word) : Bool := s.regions.any fun g => g.touches k a

/-- What the port answers to a `MemRead(addr, n)` made after `i` more calls: in plain memory the bytes there (R83),
elsewhere what the oracle gives that call (R85), of the width of the access. -/
def answer (s : State) (i : Nat) (k : Width) (a : Word) : Word :=
  if s.isExternal k a then k.lowBits (Config.portAnswer (s.port.length + i)) else s.mem.read k a

/-- The value `MemRead(addr, n)` returns as the next call (R83, R85). -/
def peek (s : State) (k : Width) (a : Word) : Word := s.answer 0 k a

/-- The call `MemRead(addr, n)` makes at the port (R85). -/
def noteRead (s : State) (k : Width) (a : Word) : State := { s with port := .get k a :: s.port }

/-- `MemWrite(addr, n, v)` (R84): the bytes, and the call at the port (R85). -/
def store (s : State) (k : Width) (a v : Word) : State :=
  { s with mem := s.mem.write k a v, port := .set k a (k.lowBits v) :: s.port }

/-! ### Free values (R17; assumption log 1) -/

/-- The 32-bit value the next `draw()` gives. -/
def nextWord (s : State) : Word := Config.drawWord s.draws

/-- The 1-bit value the `k`-th of the next draws gives. -/
def nextBit (s : State) (k : Nat) : Bool := Config.drawBit (s.draws + k)

/-- `n` more free values have been used. -/
def drew (s : State) (n : Nat) : State := { s with draws := s.draws + n }

/-! ### Stops (R17) -/

/-- `fault Unpredictable(A, w, reason)` (R17). -/
def unpredictable (s : State) (r : Reason) : Result := .fault (.unpredictable s.instrAddr s.decoded r)

/-- `fault Unsupported(A, w)` (R350). -/
def unsupported (s : State) (w : Word) : Result := .fault (.unsupported s.instrAddr w)

end State

/-- Go on with a next state; keep a stop. -/
def andThen (r : Result) (f : State → Result) : Result :=
  match r with
  | .next s => f s
  | .fault e => .fault e
  | .refused e => .refused e

/-- Stop with the first restriction that is violated, else go on. -/
def checked (violation : Option Reason) (s : State) (go : Result) : Result :=
  match violation with
  | some r => s.unpredictable r
  | none => go

/-- The first reason of a list whose condition holds. -/
def firstViolation : List (Bool × Reason) → Option Reason
  | [] => none
  | (bad, r) :: rest => if bad then some r else firstViolation rest

/-! ### Exceptions -/

/-- `EnterException(mode, vector, link)` (R485): CPSR is saved in the target mode's SPSR, the link in its R14, the mode
switches, T becomes 0, I becomes 1, and the pc goes to the vector. -/
def enterException (m : Mode) (vector link : Word) (s : State) : State :=
  let saved := s.cpsr
  ((((s.setMode m).setSpsr saved).setReg 14 link).setT false |>.setI true).writePc vector

/-- `CopySPSRtoCPSR(A, w)` (R221), the return from an exception (R500). -/
def copySpsrToCpsr (s : State) : Result :=
  match s.spsr with
  | none => s.unpredictable .noSpsr
  | some v => if validMode v then .next (s.setCpsr v) else .fault (.invalidMode v)

/-- UndefinedInstruction (R486). -/
def raiseUndefined (link : Word) (s : State) : Result := .next (enterException .undefined undefinedVector link s)

/-- SoftwareInterrupt (R487). -/
def raiseSwi (link : Word) (s : State) : Result := .next (enterException .supervisor swiVector link s)

/-- The IRQ entry (R488): the link is slot15 - 2*inc + 4. -/
def enterIrq (s : State) : State := enterException .irq irqVector (s.instrAddr + 4#32) s

/-- The branch of BX (R342, R401): bit 0 of the target selects the set. -/
def exchange (t : Word) (s : State) : Result :=
  if bit t 0 = false ∧ bit t 1 = true then s.unpredictable .bxMisaligned
  else .next ((s.setT (bit t 0)).writePc (t &&& 0xFFFFFFFE#32))

end Sys2Proof.Machine
end

