-- ==== Sys2Proof/Machine/Flags.lean ====
section
/-! DEFINITION. The condition evaluator (R180, R181) and the flag generator (R183-R189). -/

namespace Sys2Proof.Machine

/-- `CondPassed(cond)` on the flags N, Z, C and V (R180). -/
def condPassed (cond : Cond) (n z c v : Bool) : Bool :=
  match cond with
  | .eq => z
  | .ne => !z
  | .cs => c
  | .cc => !c
  | .mi => n
  | .pl => !n
  | .vs => v
  | .vc => !v
  | .hi => c && !z
  | .ls => !c || z
  | .ge => n == v
  | .lt => n != v
  | .gt => !z && (n == v)
  | .le => z || (n != v)
  | .al => true
  | .nv => false

/-- `CondPassed(cond)` in a state (R180). -/
def State.passed (s : State) (cond : Cond) : Bool := condPassed cond s.flagN s.flagZ s.flagC s.flagV

/-- An instruction whose condition fails is a complete no-op (R181). -/
def ifPassed (cond : Cond) (s : State) (go : Result) : Result := if s.passed cond then go else .next s

/-- What the flag generator returns: the result, C and V (R185). -/
structure AluOut where
  result : Word
  carry : Bool
  overflow : Bool
  deriving DecidableEq, Repr

/-- `AddWithCarry(a, b, cin)` (R185): C is the carry out of the exact unsigned sum, V the overflow of the exact signed
sum. -/
def addWithCarry (a b : Word) (cin : Bool) : AluOut :=
  let usum : Nat := a.toNat + b.toNat + cin.toNat
  let ssum : Int := a.toInt + b.toInt + cin.toNat
  { result := BitVec.ofNat 32 usum
    carry := decide (4294967296 ≤ usum)
    overflow := decide (ssum < -2147483648) || decide (2147483647 < ssum) }

/-- `carriedAdd(a, b, r)` (R184). -/
def carriedAdd (a b r : Word) : Bool := bit ((a &&& b) ||| ((a ||| b) &&& ~~~r)) 31

/-- `overflowedAdd(a, b, r)` (R184). -/
def overflowedAdd (a b r : Word) : Bool := bit ((a ^^^ r) &&& (b ^^^ r)) 31

/-- `borrowedSub(a, b, r)` (R184). -/
def borrowedSub (a b r : Word) : Bool := bit ((~~~a &&& b) ||| ((~~~a ||| b) &&& r)) 31

/-- `overflowedSub(a, b, r)` (R184). -/
def overflowedSub (a b r : Word) : Bool := bit ((a ^^^ b) &&& (a ^^^ r)) 31

/-- CPSR with the four flags replaced (R40, R48). -/
def withFlags (w : Word) (n z c v : Bool) : Word := withBit (withBit (withBit (withBit w 31 n) 30 z) 29 c) 28 v

/-- Write N, Z, C and V; every other bit of CPSR stays (R48). -/
def State.setFlags (s : State) (n z c v : Bool) : State := s.setCpsr (withFlags s.cpsr n z c v)

/-- The flags of a 32-bit result: N and Z from it (R183), C and V as given. -/
def State.setNZCV (s : State) (out : AluOut) : State :=
  s.setFlags (bit out.result 31) (out.result == 0#32) out.carry out.overflow

/-- The flags of a logical operation (R188): N and Z from the result, C as given, V unchanged. -/
def State.setNZC (s : State) (r : Word) (c : Bool) : State := s.setFlags (bit r 31) (r == 0#32) c s.flagV

end Sys2Proof.Machine
end

