-- ==== Sys2Proof/Machine/Operands.lean ====
section
/-! DEFINITION. The operand forms: the barrel shifter (R190-R195), operand 2 (R197, R198), the addresses of single,
halfword and block transfers (R290, R302, R310) with their restrictions (R292, R302, R314), the load helpers (R87), and
the branch offsets (R139, R162). -/

namespace Sys2Proof.Machine

/-- A shifted value and the shifter's carry-out. -/
structure Shifted where
  value : Word
  carry : Bool
  deriving DecidableEq, Repr

/-- All copies of bit 31: the result of ASR by 32 or more (R193). -/
def signFill (v : Word) : Word := if bit v 31 then 0xFFFFFFFF#32 else 0#32

/-- `Shift(type, amount, fromReg, v, cin)` (R190). -/
def shift (type : ShiftType) (amount : Nat) (fromReg : Bool) (v : Word) (cin : Bool) : Shifted :=
  if amount = 0 then
    if fromReg then ⟨v, cin⟩
    else match type with
      | .lsl => ⟨v, cin⟩
      | .lsr => ⟨0#32, bit v 31⟩
      | .asr => ⟨signFill v, bit v 31⟩
      | .ror => ⟨((BitVec.ofBool cin).setWidth 32 <<< 31) ||| (v >>> 1), bit v 0⟩
  else match type with
    | .lsl =>
      if amount < 32 then ⟨v <<< amount, bit v (32 - amount)⟩
      else if amount = 32 then ⟨0#32, bit v 0⟩
      else ⟨0#32, false⟩
    | .lsr =>
      if amount < 32 then ⟨v >>> amount, bit v (amount - 1)⟩
      else if amount = 32 then ⟨0#32, bit v 31⟩
      else ⟨0#32, false⟩
    | .asr =>
      if amount < 32 then ⟨v.sshiftRight amount, bit v (amount - 1)⟩
      else ⟨signFill v, bit v 31⟩
    | .ror =>
      if amount % 32 = 0 then ⟨v, bit v 31⟩
      else ⟨v.rotateRight (amount % 32), bit v (amount % 32 - 1)⟩

/-- The value of a rotated immediate (R197). -/
def rotatedImm (rotate : BitVec 4) (imm8 : BitVec 8) : Word := (imm8.setWidth 32).rotateRight (2 * rotate.toNat)

/-- Operand 2, immediate form (R197, R198). -/
def operandImm (rotate : BitVec 4) (imm8 : BitVec 8) (cin : Bool) : Shifted :=
  ⟨rotatedImm rotate imm8, if rotate = 0#4 then cin else bit (rotatedImm rotate imm8) 31⟩

/-- Operand 2, register shifted by an immediate (R198). -/
def State.operandRegImm (s : State) (amount : BitVec 5) (sh : ShiftType) (rm : Reg) : Shifted :=
  shift sh amount.toNat false (s.reg rm) s.flagC

/-- Operand 2, register shifted by a register: the amount is the bottom byte of Rs (R195, R198). -/
def State.operandRegReg (s : State) (rs : Reg) (sh : ShiftType) (rm : Reg) : Shifted :=
  shift sh (byteOf (s.reg rs) 0).toNat true (s.reg rm) s.flagC

/-! ### Single transfers -/

/-- Where a transfer goes and what the base becomes (R290). -/
structure Access where
  addr : Word
  final : Word
  wb : Bool
  deriving DecidableEq, Repr

/-- `SDTAddress` (R290), for a base and an offset: post-indexing always writes back. -/
def access (pre up wb : Bool) (base off : Word) : Access :=
  let offAddr := if up then base + off else base - off
  ⟨if pre then offAddr else base, offAddr, !pre || wb⟩

/-- The register offset of A-SDT (R291): the shifter's result; its carry is discarded. -/
def State.sdtOffset (s : State) (amount : BitVec 5) (sh : ShiftType) (rm : Reg) : Word :=
  (shift sh amount.toNat false (s.reg rm) s.flagC).value

/-- The restrictions of A-SDT (R292); `off` is Rm of a register offset, `narrow` a byte transfer. -/
def sdtViolation (off : Option Reg) (narrow wb : Bool) (rn rd : Reg) : Option Reason :=
  firstViolation [
    (off == some 15, .offsetR15),
    (wb && rn == 15, .writebackR15),
    (wb && rn == rd, .writebackToData),
    (narrow && rd == 15, .narrowR15)]

/-- The restrictions of A-HW (R302). -/
def hwViolation (off : Option Reg) (pre wb : Bool) (rn rd : Reg) : Option Reason :=
  firstViolation [
    (!pre && wb, .halfwordTVariant),
    (rd == 15, .narrowR15),
    (off == some 15, .offsetR15),
    ((!pre || wb) && rn == 15, .writebackR15),
    ((!pre || wb) && rn == rd, .writebackToData)]

/-- What a load puts into a register (R87, R89). -/
inductive LoadKind
  | word | halfU | halfS | byteU | byteS
  deriving DecidableEq, Repr

/-- The width of the port access of a load (R89). -/
def LoadKind.width : LoadKind → Width
  | .word => .word
  | .halfU => .half
  | .halfS => .half
  | .byteU => .byte
  | .byteS => .byte

/-- The load helpers LoadWord, LoadHalfU, LoadHalfS, LoadByteU and LoadByteS (R87). -/
def State.load (s : State) (k : LoadKind) (a : Word) : Word :=
  match k with
  | .word => (s.peek .word a).rotateRight (8 * (field a 0 2).toNat)
  | .halfU => (s.peek .half a).rotateRight (8 * (field a 0 1).toNat)
  | .halfS => ((field (s.peek .half a) 0 16).signExtend 32).sshiftRight (8 * (field a 0 1).toNat)
  | .byteU => (field (s.peek .byte a) 0 8).setWidth 32
  | .byteS => (field (s.peek .byte a) 0 8).signExtend 32

/-! ### Block transfers -/

/-- R0-R15 in ascending order. -/
def allRegs : List Reg := [0, 1, 2, 3, 4, 5, 6, 7, 8, 9, 10, 11, 12, 13, 14, 15]

/-- The registers of a Set-A list, ascending (R310). -/
def regsA (rlist : BitVec 16) : List Reg := allRegs.filter fun r => bit rlist r.val

/-- The registers R0-R7 of a Set-B list, ascending (R441-R444). -/
def regsB (rlist : BitVec 8) : List Reg := allRegs.filter fun r => decide (r.val < 8) && bit rlist r.val

/-- `4n` for `n` registers. -/
def spanOf (n : Nat) : Word := BitVec.ofNat 32 (4 * n)

/-- The start address of a block transfer of `n` registers (R310's table). -/
def blockStart (pre up : Bool) (base : Word) (n : Nat) : Word :=
  if up then (if pre then base + 4#32 else base)
  else (if pre then base - spanOf n else base - spanOf n + 4#32)

/-- The write-back value of a block transfer of `n` registers (R310's table). -/
def blockFinal (up : Bool) (base : Word) (n : Nat) : Word := if up then base + spanOf n else base - spanOf n

/-- The words of a block load, by port calls that begin after `i` others: register `k` of the list from `a + 4k`,
unrotated (R91, R92, R310). -/
def State.readWords (s : State) (i : Nat) (a : Word) : List Reg → List (Reg × Word)
  | [] => []
  | r :: rest => (r, s.answer i .word a) :: s.readWords (i + 1) (a + 4#32) rest

/-- The port calls of a block load, ascending (R92). -/
def State.noteReads (s : State) (a : Word) : List Reg → State
  | [] => s
  | _ :: rest => (s.noteRead .word a).noteReads (a + 4#32) rest

/-- The stores of a block store, ascending (R92, R310). -/
def State.storeWords (s : State) (a : Word) : List Word → State
  | [] => s
  | v :: rest => (s.store .word a v).storeWords (a + 4#32) rest

/-- Write loaded registers in order (R311). -/
def State.setRegs (s : State) : List (Reg × Word) → State
  | [] => s
  | (r, v) :: rest => (s.setReg r v).setRegs rest

/-- Write loaded registers of the user bank in order (R311, R314). -/
def State.setUserRegs (s : State) : List (Reg × Word) → State
  | [] => s
  | (r, v) :: rest => (s.setUserReg r v).setUserRegs rest

/-- The restrictions of A-BDT (R314); `userBank` is S = 1 without R15 in the list. -/
def blockViolation (s : State) (sbit wb : Bool) (rn : Reg) (rlist : BitVec 16) : Option Reason :=
  firstViolation [
    (rn == 15, .blockBaseR15),
    (rlist == 0#16, .emptyList),
    (sbit && s.bank.spsrSlot.isNone, .userBankMode),
    (sbit && !bit rlist 15 && wb, .userBankWriteback)]

/-! ### Branch offsets -/

/-- `sext_32(offset24 : 00)` (R133). -/
def offsetA (offset24 : BitVec 24) : Word := (offset24.signExtend 32) <<< 2

/-- `sext_32(soffset8 : 0)` (R156). -/
def offsetB8 (soffset8 : BitVec 8) : Word := (soffset8.signExtend 32) <<< 1

/-- `sext_32(offset11 : 0)` (R158). -/
def offsetB11 (offset11 : BitVec 11) : Word := (offset11.signExtend 32) <<< 1

/-- `(x[15]) AND 0xFFFFFFFC`: the word-aligned PC base of F6 and F12 (R420, R437). -/
def State.pcBase (s : State) : Word := s.reg 15 &&& 0xFFFFFFFC#32

/-- An immediate offset field scaled by `2^k` (R162). -/
def scaled {n : Nat} (imm : BitVec n) (k : Nat) : Word := imm.setWidth 32 <<< k

end Sys2Proof.Machine
end

