-- ==== Sys2Proof/Machine/BlockTransfers.lean ====
section
/-! DEFINITION. Set-A block transfers (R310-R314) and swaps (R320, R321). -/

namespace Sys2Proof.Machine

/-- The register writes of LDM after the loads and the write-back (R311): with S = 1 and no R15 in the list, the user
bank; else R0-R14, then, for R15, the SPSR copy where S = 1 and the branch. -/
def writeLoaded (sbit : Bool) (rlist : BitVec 16) (vals : List (Reg × Word)) (s : State) : Result :=
  if sbit && !bit rlist 15 then .next (s.setUserRegs vals)
  else
    let t := s.setRegs (vals.filter fun p => p.1 != 15)
    match vals.find? fun p => p.1 == 15 with
    | none => .next t
    | some p => andThen (if sbit then copySpsrToCpsr t else .next t) fun u => .next (u.writePc p.2)

/-- The base of LDM with write-back and the base in the list ends as a draw (R311, R313); it is written last, in
the bank the mode then has (assumption log 13). -/
def drawBase (drawn : Bool) (rn : Reg) (s : State) : State :=
  if drawn then (s.setReg rn s.nextWord).drew 1 else s

/-- The word STM stores for a register (R293, R312, R313): a draw for the base when it is in the list with write-back
and is not the lowest register. -/
def stmData (sbit wb : Bool) (rn : Reg) (rlist : BitVec 16) (s : State) (r : Reg) : Word :=
  if wb && r == rn && (regsA rlist).head? != some r then s.nextWord
  else if r.val = 15 then s.instrAddr + storePcOffset
  else if sbit then s.userReg r
  else s.reg r

/-- Whether STM stores a draw (R313). -/
def stmDraws (wb : Bool) (rn : Reg) (regs : List Reg) : Nat :=
  if wb && regs.contains rn && regs.head? != some rn then 1 else 0

/-- SWP and SWPB (R320, R321): the read, the write, then the register. -/
def swap (k : LoadKind) (cond : Cond) (rn rd rm : Reg) (s : State) : Result :=
  ifPassed cond s (checked
    (firstViolation [
      (rd == 15 || rm == 15 || rn == 15, .swapOperands),
      (rn == rd || rn == rm, .swapOperands)]) s
    (.next (((s.noteRead k.width (s.reg rn)).store k.width (s.reg rn) (s.reg rm)).setReg rd (s.load k (s.reg rn)))))

/-- LDM (R311). -/
def execLdm (cond : Cond) (pre up sbit wb : Bool) (rn : Reg) (rlist : BitVec 16) (s : State) : Result :=
  ifPassed cond s (checked (blockViolation s sbit wb rn rlist) s (
    let regs := regsA rlist
    let start := blockStart pre up (s.reg rn) regs.length
    let final := blockFinal up (s.reg rn) regs.length
    let vals := s.readWords 0 start regs
    let read := s.noteReads start regs
    let based := if wb then read.setReg rn final else read
    andThen (writeLoaded sbit rlist vals based) fun t => .next (drawBase (wb && bit rlist rn.val) rn t)))

/-- STM (R312). -/
def execStm (cond : Cond) (pre up sbit wb : Bool) (rn : Reg) (rlist : BitVec 16) (s : State) : Result :=
  ifPassed cond s (checked (blockViolation s sbit wb rn rlist) s (
    let regs := regsA rlist
    let start := blockStart pre up (s.reg rn) regs.length
    let final := blockFinal up (s.reg rn) regs.length
    let stored := (s.storeWords start (regs.map (stmData sbit wb rn rlist s))).drew (stmDraws wb rn regs)
    .next (if wb then stored.setReg rn final else stored)))

/-- SWP (R320). -/
def execSwp (cond : Cond) (rn rd rm : Reg) (s : State) : Result :=
  swap .word cond rn rd rm s

/-- SWPB (R321). -/
def execSwpb (cond : Cond) (rn rd rm : Reg) (s : State) : Result :=
  swap .byteU cond rn rd rm s

end Sys2Proof.Machine
end

