-- ==== Sys2Proof/Machine/BranchSystem.lean ====
section
/-! DEFINITION. Set-A branches, SWI, the undefined and coprocessor spaces, and the Unsupported words (R340-R351). -/

namespace Sys2Proof.Machine

/-- The trap of an undefined or coprocessor word of Set-A, taken when its condition passes (R347, R348). -/
def undefinedA (cond : Cond) (s : State) : Result := ifPassed cond s (raiseUndefined (s.instrAddr + 4#32) s)

/-- A coprocessor word under COPROC_POLICY (R348); its fields are never read (R349). -/
def coprocessor (policy : Config.CoprocPolicy) (cond : Cond) (s : State) : Result :=
  match policy with
  | .undefinedTrap => undefinedA cond s
  | .unsupported => s.unsupported s.decoded

/-- B (R340). -/
def execB (cond : Cond) (offset24 : BitVec 24) (s : State) : Result :=
  ifPassed cond s (.next (s.writePc (s.reg 15 + offsetA offset24)))

/-- BL (R341). -/
def execBl (cond : Cond) (offset24 : BitVec 24) (s : State) : Result :=
  ifPassed cond s (.next ((s.setReg 14 (s.instrAddr + 4#32)).writePc (s.reg 15 + offsetA offset24)))

/-- BX (R342). -/
def execBx (cond : Cond) (rm : Reg) (s : State) : Result :=
  ifPassed cond s (exchange (s.reg rm) s)

/-- SWI (R343). -/
def execSwi (cond : Cond) (_comment : BitVec 24) (s : State) : Result :=
  ifPassed cond s (raiseSwi (s.instrAddr + 4#32) s)

/-- UND (R347). -/
def execUnd (cond : Cond) (_hi : BitVec 20) (_lo : BitVec 4) (s : State) : Result :=
  undefinedA cond s

/-- LDC (R348). -/
def execLdc (cond : Cond) (_p _u _n _w : Bool) (_rn : Reg) (_crd _cp : BitVec 4) (_offset : BitVec 8)
    (s : State) : Result :=
  coprocessor coprocPolicy cond s

/-- STC (R348). -/
def execStc (cond : Cond) (_p _u _n _w : Bool) (_rn : Reg) (_crd _cp : BitVec 4) (_offset : BitVec 8)
    (s : State) : Result :=
  coprocessor coprocPolicy cond s

/-- CDP (R348). -/
def execCdp (cond : Cond) (_op1 _crn _crd _cp : BitVec 4) (_op2 : BitVec 3) (_crm : BitVec 4) (s : State) : Result :=
  coprocessor coprocPolicy cond s

/-- MCR (R348). -/
def execMcr (cond : Cond) (_op1 : BitVec 3) (_crn : BitVec 4) (_rd : Reg) (_cp : BitVec 4) (_op2 : BitVec 3)
    (_crm : BitVec 4) (s : State) : Result :=
  coprocessor coprocPolicy cond s

/-- MRC (R348). -/
def execMrc (cond : Cond) (_op1 : BitVec 3) (_crn : BitVec 4) (_rd : Reg) (_cp : BitVec 4) (_op2 : BitVec 3)
    (_crm : BitVec 4) (s : State) : Result :=
  coprocessor coprocPolicy cond s

/-- Unsupported (reserved multiply) (R350). -/
def execUnsupportedMultiply (word : Word) (s : State) : Result :=
  s.unsupported word

/-- Unsupported (reserved swap) (R350). -/
def execUnsupportedSwap (word : Word) (s : State) : Result :=
  s.unsupported word

/-- Unsupported (reserved halfword store) (R350). -/
def execUnsupportedHalfwordStore (word : Word) (s : State) : Result :=
  s.unsupported word

/-- Unsupported (reserved misc) (R350). -/
def execUnsupportedMisc (word : Word) (s : State) : Result :=
  s.unsupported word

/-- Unsupported (reserved immediate misc) (R350). -/
def execUnsupportedImmMisc (word : Word) (s : State) : Result :=
  s.unsupported word

end Sys2Proof.Machine
end

