-- ==== Sys2Proof/Machine/DataProcessing.lean ====
section
/-! DEFINITION. Set-A data processing (R220-R239), format A-DP. -/

namespace Sys2Proof.Machine

/-! ### The sixteen operations (R224-R239) -/

/-- `usesRn` (R220): false only for MOV and MVN. -/
def usesRn : DpOp → Bool
  | .and | .eor | .sub | .rsb | .add | .adc | .sbc | .rsc | .tst | .teq | .cmp | .cmn | .orr | .bic => true
  | .mov | .mvn => false

/-- `writesRd` (R220): false only for TST, TEQ, CMP and CMN. -/
def writesRd : DpOp → Bool
  | .and | .eor | .sub | .rsb | .add | .adc | .sbc | .rsc | .orr | .mov | .bic | .mvn => true
  | .tst | .teq | .cmp | .cmn => false

/-- A logical operation's output (R188): C is the shifter's carry, V is unchanged. -/
def logicalOut (r : Word) (shc v : Bool) : AluOut := ⟨r, shc, v⟩

/-- `(res, C, V)` of an operation on `a` and operand 2 (R224-R239), with CPSR.C and CPSR.V before the instruction. -/
def compute (op : DpOp) (a : Word) (op2 : Shifted) (c v : Bool) : AluOut :=
  match op with
  | .and => logicalOut (a &&& op2.value) op2.carry v
  | .eor => logicalOut (a ^^^ op2.value) op2.carry v
  | .sub => addWithCarry a (~~~op2.value) true
  | .rsb => addWithCarry op2.value (~~~a) true
  | .add => addWithCarry a op2.value false
  | .adc => addWithCarry a op2.value c
  | .sbc => addWithCarry a (~~~op2.value) c
  | .rsc => addWithCarry op2.value (~~~a) c
  | .tst => logicalOut (a &&& op2.value) op2.carry v
  | .teq => logicalOut (a ^^^ op2.value) op2.carry v
  | .cmp => addWithCarry a (~~~op2.value) true
  | .cmn => addWithCarry a op2.value false
  | .orr => logicalOut (a ||| op2.value) op2.carry v
  | .mov => logicalOut op2.value op2.carry v
  | .bic => logicalOut (a &&& ~~~op2.value) op2.carry v
  | .mvn => logicalOut (~~~op2.value) op2.carry v

/-! ### The common procedure (R220-R223) -/

/-- Write a data-processing result (R220-R222): to R15 with S = 1 it copies SPSR into CPSR first and sets no flag from
the result. -/
def writeDp (hasRd sf : Bool) (rd : Reg) (out : AluOut) (s : State) : Result :=
  if hasRd && rd == 15 then
    if sf then andThen (copySpsrToCpsr s) fun t => .next (t.writePc out.result)
    else .next (s.writePc out.result)
  else
    let t := if hasRd then s.setReg rd out.result else s
    .next (if sf then t.setNZCV out else t)

/-- `ExecDP` (R220) after operand 2: all operands are read before any write. -/
def dataProc (op : DpOp) (cond : Cond) (sf : Bool) (rn rd : Reg) (op2 : Shifted) (s : State) : Result :=
  ifPassed cond s
    (writeDp (writesRd op) sf rd (compute op (if usesRn op then s.reg rn else 0#32) op2 s.flagC s.flagV) s)

/-- The register fields that may not be R15 in the register-shift form (R198, R223). -/
def registerShiftViolation (op : DpOp) (rn rd rs rm : Reg) : Option Reason :=
  firstViolation [
    (usesRn op && rn == 15, .registerShiftR15),
    (writesRd op && rd == 15, .registerShiftR15),
    (rm == 15, .registerShiftR15),
    (rs == 15, .registerShiftR15)]

/-- `ExecDP` in the register-shifted-by-register form (R198, R220, R223). -/
def dataProcRegReg (op : DpOp) (cond : Cond) (sf : Bool) (rn rd rs : Reg) (sh : ShiftType) (rm : Reg) (s : State) :
    Result :=
  ifPassed cond s (checked (registerShiftViolation op rn rd rs rm) s
    (dataProc op cond sf rn rd (s.operandRegReg rs sh rm) s))

/-- AND (imm) (R224). -/
def execAndImm (cond : Cond) (sf : Bool) (rn rd : Reg) (rotate : BitVec 4) (imm8 : BitVec 8) (s : State) : Result :=
  dataProc .and cond sf rn rd (operandImm rotate imm8 s.flagC) s

/-- AND (reg-imm-shift) (R224). -/
def execAndRegImm (cond : Cond) (sf : Bool) (rn rd : Reg) (amount : BitVec 5) (sh : ShiftType) (rm : Reg)
    (s : State) : Result :=
  dataProc .and cond sf rn rd (s.operandRegImm amount sh rm) s

/-- AND (reg-reg-shift) (R224). -/
def execAndRegReg (cond : Cond) (sf : Bool) (rn rd rs : Reg) (sh : ShiftType) (rm : Reg) (s : State) : Result :=
  dataProcRegReg .and cond sf rn rd rs sh rm s

/-- EOR (imm) (R225). -/
def execEorImm (cond : Cond) (sf : Bool) (rn rd : Reg) (rotate : BitVec 4) (imm8 : BitVec 8) (s : State) : Result :=
  dataProc .eor cond sf rn rd (operandImm rotate imm8 s.flagC) s

/-- EOR (reg-imm-shift) (R225). -/
def execEorRegImm (cond : Cond) (sf : Bool) (rn rd : Reg) (amount : BitVec 5) (sh : ShiftType) (rm : Reg)
    (s : State) : Result :=
  dataProc .eor cond sf rn rd (s.operandRegImm amount sh rm) s

/-- EOR (reg-reg-shift) (R225). -/
def execEorRegReg (cond : Cond) (sf : Bool) (rn rd rs : Reg) (sh : ShiftType) (rm : Reg) (s : State) : Result :=
  dataProcRegReg .eor cond sf rn rd rs sh rm s

/-- SUB (imm) (R226). -/
def execSubImm (cond : Cond) (sf : Bool) (rn rd : Reg) (rotate : BitVec 4) (imm8 : BitVec 8) (s : State) : Result :=
  dataProc .sub cond sf rn rd (operandImm rotate imm8 s.flagC) s

/-- SUB (reg-imm-shift) (R226). -/
def execSubRegImm (cond : Cond) (sf : Bool) (rn rd : Reg) (amount : BitVec 5) (sh : ShiftType) (rm : Reg)
    (s : State) : Result :=
  dataProc .sub cond sf rn rd (s.operandRegImm amount sh rm) s

/-- SUB (reg-reg-shift) (R226). -/
def execSubRegReg (cond : Cond) (sf : Bool) (rn rd rs : Reg) (sh : ShiftType) (rm : Reg) (s : State) : Result :=
  dataProcRegReg .sub cond sf rn rd rs sh rm s

/-- RSB (imm) (R227). -/
def execRsbImm (cond : Cond) (sf : Bool) (rn rd : Reg) (rotate : BitVec 4) (imm8 : BitVec 8) (s : State) : Result :=
  dataProc .rsb cond sf rn rd (operandImm rotate imm8 s.flagC) s

/-- RSB (reg-imm-shift) (R227). -/
def execRsbRegImm (cond : Cond) (sf : Bool) (rn rd : Reg) (amount : BitVec 5) (sh : ShiftType) (rm : Reg)
    (s : State) : Result :=
  dataProc .rsb cond sf rn rd (s.operandRegImm amount sh rm) s

/-- RSB (reg-reg-shift) (R227). -/
def execRsbRegReg (cond : Cond) (sf : Bool) (rn rd rs : Reg) (sh : ShiftType) (rm : Reg) (s : State) : Result :=
  dataProcRegReg .rsb cond sf rn rd rs sh rm s

/-- ADD (imm) (R228). -/
def execAddImm (cond : Cond) (sf : Bool) (rn rd : Reg) (rotate : BitVec 4) (imm8 : BitVec 8) (s : State) : Result :=
  dataProc .add cond sf rn rd (operandImm rotate imm8 s.flagC) s

/-- ADD (reg-imm-shift) (R228). -/
def execAddRegImm (cond : Cond) (sf : Bool) (rn rd : Reg) (amount : BitVec 5) (sh : ShiftType) (rm : Reg)
    (s : State) : Result :=
  dataProc .add cond sf rn rd (s.operandRegImm amount sh rm) s

/-- ADD (reg-reg-shift) (R228). -/
def execAddRegReg (cond : Cond) (sf : Bool) (rn rd rs : Reg) (sh : ShiftType) (rm : Reg) (s : State) : Result :=
  dataProcRegReg .add cond sf rn rd rs sh rm s

/-- ADC (imm) (R229). -/
def execAdcImm (cond : Cond) (sf : Bool) (rn rd : Reg) (rotate : BitVec 4) (imm8 : BitVec 8) (s : State) : Result :=
  dataProc .adc cond sf rn rd (operandImm rotate imm8 s.flagC) s

/-- ADC (reg-imm-shift) (R229). -/
def execAdcRegImm (cond : Cond) (sf : Bool) (rn rd : Reg) (amount : BitVec 5) (sh : ShiftType) (rm : Reg)
    (s : State) : Result :=
  dataProc .adc cond sf rn rd (s.operandRegImm amount sh rm) s

/-- ADC (reg-reg-shift) (R229). -/
def execAdcRegReg (cond : Cond) (sf : Bool) (rn rd rs : Reg) (sh : ShiftType) (rm : Reg) (s : State) : Result :=
  dataProcRegReg .adc cond sf rn rd rs sh rm s

/-- SBC (imm) (R230). -/
def execSbcImm (cond : Cond) (sf : Bool) (rn rd : Reg) (rotate : BitVec 4) (imm8 : BitVec 8) (s : State) : Result :=
  dataProc .sbc cond sf rn rd (operandImm rotate imm8 s.flagC) s

/-- SBC (reg-imm-shift) (R230). -/
def execSbcRegImm (cond : Cond) (sf : Bool) (rn rd : Reg) (amount : BitVec 5) (sh : ShiftType) (rm : Reg)
    (s : State) : Result :=
  dataProc .sbc cond sf rn rd (s.operandRegImm amount sh rm) s

/-- SBC (reg-reg-shift) (R230). -/
def execSbcRegReg (cond : Cond) (sf : Bool) (rn rd rs : Reg) (sh : ShiftType) (rm : Reg) (s : State) : Result :=
  dataProcRegReg .sbc cond sf rn rd rs sh rm s

/-- RSC (imm) (R231). -/
def execRscImm (cond : Cond) (sf : Bool) (rn rd : Reg) (rotate : BitVec 4) (imm8 : BitVec 8) (s : State) : Result :=
  dataProc .rsc cond sf rn rd (operandImm rotate imm8 s.flagC) s

/-- RSC (reg-imm-shift) (R231). -/
def execRscRegImm (cond : Cond) (sf : Bool) (rn rd : Reg) (amount : BitVec 5) (sh : ShiftType) (rm : Reg)
    (s : State) : Result :=
  dataProc .rsc cond sf rn rd (s.operandRegImm amount sh rm) s

/-- RSC (reg-reg-shift) (R231). -/
def execRscRegReg (cond : Cond) (sf : Bool) (rn rd rs : Reg) (sh : ShiftType) (rm : Reg) (s : State) : Result :=
  dataProcRegReg .rsc cond sf rn rd rs sh rm s

/-- TST (imm) (R232). -/
def execTstImm (cond : Cond) (rn : Reg) (rotate : BitVec 4) (imm8 : BitVec 8) (s : State) : Result :=
  dataProc .tst cond true rn 0 (operandImm rotate imm8 s.flagC) s

/-- TST (reg-imm-shift) (R232). -/
def execTstRegImm (cond : Cond) (rn : Reg) (amount : BitVec 5) (sh : ShiftType) (rm : Reg) (s : State) : Result :=
  dataProc .tst cond true rn 0 (s.operandRegImm amount sh rm) s

/-- TST (reg-reg-shift) (R232). -/
def execTstRegReg (cond : Cond) (rn rs : Reg) (sh : ShiftType) (rm : Reg) (s : State) : Result :=
  dataProcRegReg .tst cond true rn 0 rs sh rm s

/-- TEQ (imm) (R233). -/
def execTeqImm (cond : Cond) (rn : Reg) (rotate : BitVec 4) (imm8 : BitVec 8) (s : State) : Result :=
  dataProc .teq cond true rn 0 (operandImm rotate imm8 s.flagC) s

/-- TEQ (reg-imm-shift) (R233). -/
def execTeqRegImm (cond : Cond) (rn : Reg) (amount : BitVec 5) (sh : ShiftType) (rm : Reg) (s : State) : Result :=
  dataProc .teq cond true rn 0 (s.operandRegImm amount sh rm) s

/-- TEQ (reg-reg-shift) (R233). -/
def execTeqRegReg (cond : Cond) (rn rs : Reg) (sh : ShiftType) (rm : Reg) (s : State) : Result :=
  dataProcRegReg .teq cond true rn 0 rs sh rm s

/-- CMP (imm) (R234). -/
def execCmpImm (cond : Cond) (rn : Reg) (rotate : BitVec 4) (imm8 : BitVec 8) (s : State) : Result :=
  dataProc .cmp cond true rn 0 (operandImm rotate imm8 s.flagC) s

/-- CMP (reg-imm-shift) (R234). -/
def execCmpRegImm (cond : Cond) (rn : Reg) (amount : BitVec 5) (sh : ShiftType) (rm : Reg) (s : State) : Result :=
  dataProc .cmp cond true rn 0 (s.operandRegImm amount sh rm) s

/-- CMP (reg-reg-shift) (R234). -/
def execCmpRegReg (cond : Cond) (rn rs : Reg) (sh : ShiftType) (rm : Reg) (s : State) : Result :=
  dataProcRegReg .cmp cond true rn 0 rs sh rm s

/-- CMN (imm) (R235). -/
def execCmnImm (cond : Cond) (rn : Reg) (rotate : BitVec 4) (imm8 : BitVec 8) (s : State) : Result :=
  dataProc .cmn cond true rn 0 (operandImm rotate imm8 s.flagC) s

/-- CMN (reg-imm-shift) (R235). -/
def execCmnRegImm (cond : Cond) (rn : Reg) (amount : BitVec 5) (sh : ShiftType) (rm : Reg) (s : State) : Result :=
  dataProc .cmn cond true rn 0 (s.operandRegImm amount sh rm) s

/-- CMN (reg-reg-shift) (R235). -/
def execCmnRegReg (cond : Cond) (rn rs : Reg) (sh : ShiftType) (rm : Reg) (s : State) : Result :=
  dataProcRegReg .cmn cond true rn 0 rs sh rm s

/-- ORR (imm) (R236). -/
def execOrrImm (cond : Cond) (sf : Bool) (rn rd : Reg) (rotate : BitVec 4) (imm8 : BitVec 8) (s : State) : Result :=
  dataProc .orr cond sf rn rd (operandImm rotate imm8 s.flagC) s

/-- ORR (reg-imm-shift) (R236). -/
def execOrrRegImm (cond : Cond) (sf : Bool) (rn rd : Reg) (amount : BitVec 5) (sh : ShiftType) (rm : Reg)
    (s : State) : Result :=
  dataProc .orr cond sf rn rd (s.operandRegImm amount sh rm) s

/-- ORR (reg-reg-shift) (R236). -/
def execOrrRegReg (cond : Cond) (sf : Bool) (rn rd rs : Reg) (sh : ShiftType) (rm : Reg) (s : State) : Result :=
  dataProcRegReg .orr cond sf rn rd rs sh rm s

/-- MOV (imm) (R237). -/
def execMovImm (cond : Cond) (sf : Bool) (rd : Reg) (rotate : BitVec 4) (imm8 : BitVec 8) (s : State) : Result :=
  dataProc .mov cond sf 0 rd (operandImm rotate imm8 s.flagC) s

/-- MOV (reg-imm-shift) (R237). -/
def execMovRegImm (cond : Cond) (sf : Bool) (rd : Reg) (amount : BitVec 5) (sh : ShiftType) (rm : Reg)
    (s : State) : Result :=
  dataProc .mov cond sf 0 rd (s.operandRegImm amount sh rm) s

/-- MOV (reg-reg-shift) (R237). -/
def execMovRegReg (cond : Cond) (sf : Bool) (rd rs : Reg) (sh : ShiftType) (rm : Reg) (s : State) : Result :=
  dataProcRegReg .mov cond sf 0 rd rs sh rm s

/-- BIC (imm) (R238). -/
def execBicImm (cond : Cond) (sf : Bool) (rn rd : Reg) (rotate : BitVec 4) (imm8 : BitVec 8) (s : State) : Result :=
  dataProc .bic cond sf rn rd (operandImm rotate imm8 s.flagC) s

/-- BIC (reg-imm-shift) (R238). -/
def execBicRegImm (cond : Cond) (sf : Bool) (rn rd : Reg) (amount : BitVec 5) (sh : ShiftType) (rm : Reg)
    (s : State) : Result :=
  dataProc .bic cond sf rn rd (s.operandRegImm amount sh rm) s

/-- BIC (reg-reg-shift) (R238). -/
def execBicRegReg (cond : Cond) (sf : Bool) (rn rd rs : Reg) (sh : ShiftType) (rm : Reg) (s : State) : Result :=
  dataProcRegReg .bic cond sf rn rd rs sh rm s

/-- MVN (imm) (R239). -/
def execMvnImm (cond : Cond) (sf : Bool) (rd : Reg) (rotate : BitVec 4) (imm8 : BitVec 8) (s : State) : Result :=
  dataProc .mvn cond sf 0 rd (operandImm rotate imm8 s.flagC) s

/-- MVN (reg-imm-shift) (R239). -/
def execMvnRegImm (cond : Cond) (sf : Bool) (rd : Reg) (amount : BitVec 5) (sh : ShiftType) (rm : Reg)
    (s : State) : Result :=
  dataProc .mvn cond sf 0 rd (s.operandRegImm amount sh rm) s

/-- MVN (reg-reg-shift) (R239). -/
def execMvnRegReg (cond : Cond) (sf : Bool) (rd rs : Reg) (sh : ShiftType) (rm : Reg) (s : State) : Result :=
  dataProcRegReg .mvn cond sf 0 rd rs sh rm s

end Sys2Proof.Machine
end

