-- ==== Sys2Proof/Machine/Multiply.lean ====
section
/-! DEFINITION. Set-A multiplies (R270-R278). -/

namespace Sys2Proof.Machine

/-- The constraints of MUL and MLA (R270); `rn` is MLA's accumulator. -/
def mulViolation (rd : Reg) (rn : Option Reg) (rs rm : Reg) : Option Reason :=
  firstViolation [
    (rd == 15 || rm == 15 || rs == 15 || rn == some 15, .multiplyOperands),
    (rd == rm, .multiplyOperands)]

/-- The constraints of the long multiplies (R270). -/
def mullViolation (rdHi rdLo rs rm : Reg) : Option Reason :=
  firstViolation [
    (rdHi == 15 || rdLo == 15 || rm == 15 || rs == 15, .multiplyOperands),
    (rdHi == rdLo || rdHi == rm || rdLo == rm, .multiplyOperands)]

/-- The flags of a 32-bit multiply (R278): N and Z from the result, C a draw, V unchanged. -/
def State.setMulFlags (s : State) (r : Word) : State := (s.setNZC r (s.nextBit 0)).drew 1

/-- The flags of a long multiply (R278): N and Z from all 64 bits, C and V two draws in this order. -/
def State.setMullFlags (s : State) (p : BitVec 64) : State :=
  (s.setFlags (bit p 63) (p == 0#64) (s.nextBit 0) (s.nextBit 1)).drew 2

/-- Write a 32-bit product (R271, R272). -/
def finishMul (sf : Bool) (rd : Reg) (r : Word) (s : State) : Result :=
  let t := s.setReg rd r
  .next (if sf then t.setMulFlags r else t)

/-- Write a 64-bit product: RdLo, then RdHi (R273-R276). -/
def finishMull (sf : Bool) (rdHi rdLo : Reg) (p : BitVec 64) (s : State) : Result :=
  let t := (s.setReg rdLo (field p 0 32)).setReg rdHi (field p 32 32)
  .next (if sf then t.setMullFlags p else t)

/-- `zext_64(a) * zext_64(b)`: the exact unsigned product (R273, R277). -/
def unsignedProduct (a b : Word) : BitVec 64 := a.setWidth 64 * b.setWidth 64

/-- `sext_64(a) * sext_64(b)`: the exact signed product (R275, R277). -/
def signedProduct (a b : Word) : BitVec 64 := a.signExtend 64 * b.signExtend 64

/-- `x[RdHi] : x[RdLo]`, the accumulator of the long forms (R274, R276). -/
def State.accumulator (s : State) (rdHi rdLo : Reg) : BitVec 64 := s.reg rdHi ++ s.reg rdLo

/-- MUL (R271). -/
def execMul (cond : Cond) (sf : Bool) (rd rs rm : Reg) (s : State) : Result :=
  ifPassed cond s (checked (mulViolation rd none rs rm) s (finishMul sf rd (s.reg rm * s.reg rs) s))

/-- MLA (R272). -/
def execMla (cond : Cond) (sf : Bool) (rd rn rs rm : Reg) (s : State) : Result :=
  ifPassed cond s (checked (mulViolation rd (some rn) rs rm) s
    (finishMul sf rd (s.reg rm * s.reg rs + s.reg rn) s))

/-- UMULL (R273). -/
def execUmull (cond : Cond) (sf : Bool) (rdHi rdLo rs rm : Reg) (s : State) : Result :=
  ifPassed cond s (checked (mullViolation rdHi rdLo rs rm) s
    (finishMull sf rdHi rdLo (unsignedProduct (s.reg rm) (s.reg rs)) s))

/-- UMLAL (R274). -/
def execUmlal (cond : Cond) (sf : Bool) (rdHi rdLo rs rm : Reg) (s : State) : Result :=
  ifPassed cond s (checked (mullViolation rdHi rdLo rs rm) s
    (finishMull sf rdHi rdLo (unsignedProduct (s.reg rm) (s.reg rs) + s.accumulator rdHi rdLo) s))

/-- SMULL (R275). -/
def execSmull (cond : Cond) (sf : Bool) (rdHi rdLo rs rm : Reg) (s : State) : Result :=
  ifPassed cond s (checked (mullViolation rdHi rdLo rs rm) s
    (finishMull sf rdHi rdLo (signedProduct (s.reg rm) (s.reg rs)) s))

/-- SMLAL (R276). -/
def execSmlal (cond : Cond) (sf : Bool) (rdHi rdLo rs rm : Reg) (s : State) : Result :=
  ifPassed cond s (checked (mullViolation rdHi rdLo rs rm) s
    (finishMull sf rdHi rdLo (signedProduct (s.reg rm) (s.reg rs) + s.accumulator rdHi rdLo) s))

end Sys2Proof.Machine
end

