-- ==== Sys2Proof/Machine/PsrTransfer.lean ====
section
/-! DEFINITION. The PSR transfers MRS and MSR (R240-R244). -/

namespace Sys2Proof.Machine

/-- The bytes a field mask selects: f, s, x and c are bytes 3, 2, 1 and 0 (R126, R241). -/
def maskBytes (mask : BitVec 4) : Word :=
  (if bit mask 3 then 0xFF000000#32 else 0#32) ||| (if bit mask 2 then 0x00FF0000#32 else 0#32) |||
    (if bit mask 1 then 0x0000FF00#32 else 0#32) ||| (if bit mask 0 then 0x000000FF#32 else 0#32)

/-- The bits MSR to CPSR may write: in User mode only the flag byte (R241, R506). -/
def State.writableBits (s : State) (mask : BitVec 4) : Word :=
  if s.modeBits = Mode.user.bits then maskBytes mask &&& 0xFF000000#32 else maskBytes mask

/-- A CPSR value is accepted when it keeps T (R241) and its mode is one of the seven (R45). -/
def acceptCpsr (new : Word) (s : State) : Result :=
  if bit new 5 != s.tbit then s.unpredictable .msrChangesT
  else if validMode new then .next (s.setCpsr new)
  else .fault (.invalidMode new)

/-- `WriteCPSRByMSR` (R241). -/
def writeCpsrByMsr (mask : BitVec 4) (val : Word) (s : State) : Result :=
  acceptCpsr ((s.cpsr &&& ~~~s.writableBits mask) ||| (val &&& s.writableBits mask)) s

/-- MSR to SPSR (R242): no User restriction, no T check and no mode check. -/
def writeSpsrByMsr (mask : BitVec 4) (val : Word) (s : State) : Result :=
  match s.spsr with
  | none => s.unpredictable .noSpsr
  | some old => .next (s.setSpsr ((old &&& ~~~maskBytes mask) ||| (val &&& maskBytes mask)))

/-- The write of both MSR forms (R243, R244). -/
def writePsr (psr : Psr) (mask : BitVec 4) (val : Word) (s : State) : Result :=
  match psr with
  | .cpsr => writeCpsrByMsr mask val s
  | .spsr => writeSpsrByMsr mask val s

/-- The word MRS reads; none for SPSR in User or System mode (R240). -/
def State.readPsr (s : State) (psr : Psr) : Option Word :=
  match psr with
  | .cpsr => some s.cpsr
  | .spsr => s.spsr

/-- MRS (R240). -/
def execMrs (cond : Cond) (psr : Psr) (rd : Reg) (s : State) : Result :=
  ifPassed cond s (checked (firstViolation [(rd == 15, .mrsToR15)]) s (
    match s.readPsr psr with
    | none => s.unpredictable .noSpsr
    | some v => .next (s.setReg rd v)))

/-- MSR (reg) (R243). -/
def execMsrReg (cond : Cond) (psr : Psr) (mask : BitVec 4) (rm : Reg) (s : State) : Result :=
  ifPassed cond s (checked (firstViolation [(rm == 15, .msrFromR15)]) s (writePsr psr mask (s.reg rm) s))

/-- MSR (imm) (R244). -/
def execMsrImm (cond : Cond) (psr : Psr) (mask rotate : BitVec 4) (imm8 : BitVec 8) (s : State) : Result :=
  ifPassed cond s (writePsr psr mask (rotatedImm rotate imm8) s)

end Sys2Proof.Machine
end

