-- ==== Sys2Proof/Machine/SetBAlu.lean ====
section
/-! DEFINITION. Set-B formats F1-F5 (R370-R401): shifts, arithmetic, ALU and hi-register operations. -/

namespace Sys2Proof.Machine

/-- Write a logical or shift result and its flags: N and Z from it, C as given, V unchanged (R188, R370). -/
def finishLogicalB (rd : LowReg) (r : Word) (c : Bool) (s : State) : Result := .next ((s.setLow rd r).setNZC r c)

/-- Write an arithmetic result and its four flags (R370). -/
def finishArithB (rd : LowReg) (out : AluOut) (s : State) : Result := .next ((s.setLow rd out.result).setNZCV out)

/-- A shift by an encoded amount (R371-R373). -/
def shiftImmB (type : ShiftType) (offset5 : BitVec 5) (rs rd : LowReg) (s : State) : Result :=
  finishLogicalB rd (shift type offset5.toNat false (s.low rs) s.flagC).value
    (shift type offset5.toNat false (s.low rs) s.flagC).carry s

/-- A shift by the bottom byte of a register (R384-R386, R389). -/
def shiftRegB (type : ShiftType) (rs rd : LowReg) (s : State) : Result :=
  finishLogicalB rd (shift type (byteOf (s.low rs) 0).toNat true (s.low rd) s.flagC).value
    (shift type (byteOf (s.low rs) 0).toNat true (s.low rd) s.flagC).carry s

/-- The hi-register forms with two low registers are unpredictable (R161). -/
def hiViolation (hd hs : Reg) : Option Reason :=
  firstViolation [(decide (hd.val < 8) && decide (hs.val < 8), .hiOpLowRegisters)]

/-- LSL (imm) (R371). -/
def execBLslImm (offset5 : BitVec 5) (rs rd : LowReg) (s : State) : Result :=
  shiftImmB .lsl offset5 rs rd s

/-- LSR (imm) (R372). -/
def execBLsrImm (offset5 : BitVec 5) (rs rd : LowReg) (s : State) : Result :=
  shiftImmB .lsr offset5 rs rd s

/-- ASR (imm) (R373). -/
def execBAsrImm (offset5 : BitVec 5) (rs rd : LowReg) (s : State) : Result :=
  shiftImmB .asr offset5 rs rd s

/-- ADD (reg) (R374). -/
def execBAddReg (rn rs rd : LowReg) (s : State) : Result :=
  finishArithB rd (addWithCarry (s.low rs) (s.low rn) false) s

/-- SUB (reg) (R375). -/
def execBSubReg (rn rs rd : LowReg) (s : State) : Result :=
  finishArithB rd (addWithCarry (s.low rs) (~~~s.low rn) true) s

/-- ADD (imm3) (R376). -/
def execBAddImm3 (imm3 : BitVec 3) (rs rd : LowReg) (s : State) : Result :=
  finishArithB rd (addWithCarry (s.low rs) (scaled imm3 0) false) s

/-- SUB (imm3) (R377). -/
def execBSubImm3 (imm3 : BitVec 3) (rs rd : LowReg) (s : State) : Result :=
  finishArithB rd (addWithCarry (s.low rs) (~~~scaled imm3 0) true) s

/-- MOV (imm8) (R378). -/
def execBMovImm8 (rd : LowReg) (imm8 : BitVec 8) (s : State) : Result :=
  finishLogicalB rd (scaled imm8 0) s.flagC s

/-- CMP (imm8) (R379). -/
def execBCmpImm8 (rd : LowReg) (imm8 : BitVec 8) (s : State) : Result :=
  .next (s.setNZCV (addWithCarry (s.low rd) (~~~scaled imm8 0) true))

/-- ADD (imm8) (R380). -/
def execBAddImm8 (rd : LowReg) (imm8 : BitVec 8) (s : State) : Result :=
  finishArithB rd (addWithCarry (s.low rd) (scaled imm8 0) false) s

/-- SUB (imm8) (R381). -/
def execBSubImm8 (rd : LowReg) (imm8 : BitVec 8) (s : State) : Result :=
  finishArithB rd (addWithCarry (s.low rd) (~~~scaled imm8 0) true) s

/-- AND (alu) (R382). -/
def execBAndAlu (rs rd : LowReg) (s : State) : Result :=
  finishLogicalB rd (s.low rd &&& s.low rs) s.flagC s

/-- EOR (alu) (R383). -/
def execBEorAlu (rs rd : LowReg) (s : State) : Result :=
  finishLogicalB rd (s.low rd ^^^ s.low rs) s.flagC s

/-- LSL (reg) (R384). -/
def execBLslReg (rs rd : LowReg) (s : State) : Result :=
  shiftRegB .lsl rs rd s

/-- LSR (reg) (R385). -/
def execBLsrReg (rs rd : LowReg) (s : State) : Result :=
  shiftRegB .lsr rs rd s

/-- ASR (reg) (R386). -/
def execBAsrReg (rs rd : LowReg) (s : State) : Result :=
  shiftRegB .asr rs rd s

/-- ADC (alu) (R387). -/
def execBAdcAlu (rs rd : LowReg) (s : State) : Result :=
  finishArithB rd (addWithCarry (s.low rd) (s.low rs) s.flagC) s

/-- SBC (alu) (R388). -/
def execBSbcAlu (rs rd : LowReg) (s : State) : Result :=
  finishArithB rd (addWithCarry (s.low rd) (~~~s.low rs) s.flagC) s

/-- ROR (reg) (R389). -/
def execBRorReg (rs rd : LowReg) (s : State) : Result :=
  shiftRegB .ror rs rd s

/-- TST (alu) (R390). -/
def execBTstAlu (rs rd : LowReg) (s : State) : Result :=
  .next (s.setNZC (s.low rd &&& s.low rs) s.flagC)

/-- NEG (alu) (R391). -/
def execBNegAlu (rs rd : LowReg) (s : State) : Result :=
  finishArithB rd (addWithCarry 0#32 (~~~s.low rs) true) s

/-- CMP (alu) (R392). -/
def execBCmpAlu (rs rd : LowReg) (s : State) : Result :=
  .next (s.setNZCV (addWithCarry (s.low rd) (~~~s.low rs) true))

/-- CMN (alu) (R393). -/
def execBCmnAlu (rs rd : LowReg) (s : State) : Result :=
  .next (s.setNZCV (addWithCarry (s.low rd) (s.low rs) false))

/-- ORR (alu) (R394). -/
def execBOrrAlu (rs rd : LowReg) (s : State) : Result :=
  finishLogicalB rd (s.low rd ||| s.low rs) s.flagC s

/-- MUL (alu) (R395). -/
def execBMulAlu (rs rd : LowReg) (s : State) : Result :=
  checked (firstViolation [(rd == rs, .multiplyOperands)]) s
    (.next (((s.setLow rd (s.low rd * s.low rs)).setNZC (s.low rd * s.low rs) (s.nextBit 0)).drew 1))

/-- BIC (alu) (R396). -/
def execBBicAlu (rs rd : LowReg) (s : State) : Result :=
  finishLogicalB rd (s.low rd &&& ~~~s.low rs) s.flagC s

/-- MVN (alu) (R397). -/
def execBMvnAlu (rs rd : LowReg) (s : State) : Result :=
  finishLogicalB rd (~~~s.low rs) s.flagC s

/-- ADD (hi) (R398). -/
def execBAddHi (hd hs : Reg) (s : State) : Result :=
  checked (hiViolation hd hs) s (.next (s.setReg hd (s.reg hd + s.reg hs)))

/-- CMP (hi) (R399). -/
def execBCmpHi (hd hs : Reg) (s : State) : Result :=
  checked (hiViolation hd hs) s (.next (s.setNZCV (addWithCarry (s.reg hd) (~~~s.reg hs) true)))

/-- MOV (hi) (R400). -/
def execBMovHi (hd hs : Reg) (s : State) : Result :=
  checked (hiViolation hd hs) s (.next (s.setReg hd (s.reg hs)))

/-- BX (hi) (R401). -/
def execBBxHi (h1 : Bool) (hs : Reg) (s : State) : Result :=
  checked (firstViolation [(h1, .bxHighBit)]) s (exchange (s.reg hs) s)

end Sys2Proof.Machine
end

