-- ==== Sys2Proof/Machine/SetBBranch.lean ====
section
/-! DEFINITION. Set-B formats F16-F19 and the undefined words (R460-R470). -/

namespace Sys2Proof.Machine

/-- The conditional branch F16 (R460). -/
def condBranchB (cond : Cond) (soffset8 : BitVec 8) (s : State) : Result :=
  ifPassed cond s (.next (s.writePc (s.reg 15 + offsetB8 soffset8)))

/-- BEQ (R460). -/
def execBBeq (soffset8 : BitVec 8) (s : State) : Result :=
  condBranchB .eq soffset8 s

/-- BNE (R460). -/
def execBBne (soffset8 : BitVec 8) (s : State) : Result :=
  condBranchB .ne soffset8 s

/-- BCS (R460). -/
def execBBcs (soffset8 : BitVec 8) (s : State) : Result :=
  condBranchB .cs soffset8 s

/-- BCC (R460). -/
def execBBcc (soffset8 : BitVec 8) (s : State) : Result :=
  condBranchB .cc soffset8 s

/-- BMI (R460). -/
def execBBmi (soffset8 : BitVec 8) (s : State) : Result :=
  condBranchB .mi soffset8 s

/-- BPL (R460). -/
def execBBpl (soffset8 : BitVec 8) (s : State) : Result :=
  condBranchB .pl soffset8 s

/-- BVS (R460). -/
def execBBvs (soffset8 : BitVec 8) (s : State) : Result :=
  condBranchB .vs soffset8 s

/-- BVC (R460). -/
def execBBvc (soffset8 : BitVec 8) (s : State) : Result :=
  condBranchB .vc soffset8 s

/-- BHI (R460). -/
def execBBhi (soffset8 : BitVec 8) (s : State) : Result :=
  condBranchB .hi soffset8 s

/-- BLS (R460). -/
def execBBls (soffset8 : BitVec 8) (s : State) : Result :=
  condBranchB .ls soffset8 s

/-- BGE (R460). -/
def execBBge (soffset8 : BitVec 8) (s : State) : Result :=
  condBranchB .ge soffset8 s

/-- BLT (R460). -/
def execBBlt (soffset8 : BitVec 8) (s : State) : Result :=
  condBranchB .lt soffset8 s

/-- BGT (R460). -/
def execBBgt (soffset8 : BitVec 8) (s : State) : Result :=
  condBranchB .gt soffset8 s

/-- BLE (R460). -/
def execBBle (soffset8 : BitVec 8) (s : State) : Result :=
  condBranchB .le soffset8 s

/-- SWI (B) (R461). -/
def execBSwi (_value8 : BitVec 8) (s : State) : Result :=
  raiseSwi (s.instrAddr + 2#32) s

/-- B (B) (R462). -/
def execBB (offset11 : BitVec 11) (s : State) : Result :=
  .next (s.writePc (s.reg 15 + offsetB11 offset11))

/-- BL (prefix) (R466). -/
def execBBlPrefix (offset11 : BitVec 11) (s : State) : Result :=
  .next (s.setReg 14 (s.reg 15 + (offset11.signExtend 32 <<< 12)))

/-- BL (suffix) (R467). -/
def execBBlSuffix (offset11 : BitVec 11) (s : State) : Result :=
  .next ((s.writePc (s.reg 14 + scaled offset11 1)).setReg 14 ((s.instrAddr + 2#32) ||| 1#32))

/-- UND (B) (R470). -/
def execBUnd (_half : Half) (s : State) : Result :=
  raiseUndefined (s.instrAddr + 2#32) s

end Sys2Proof.Machine
end

