-- ==== Sys2Proof/Machine/SetBTransfers.lean ====
section
/-! DEFINITION. Set-B formats F6-F15 (R420-R444): loads, stores, address generation and block transfers. -/

namespace Sys2Proof.Machine

/-- A Set-B load into a low register (R420-R436); no write-back. -/
def loadB (k : LoadKind) (addr : Word) (rd : LowReg) (s : State) : Result :=
  .next ((s.noteRead k.width addr).setLow rd (s.load k addr))

/-- A Set-B store of a low register (R421-R435). -/
def storeB (k : Width) (addr : Word) (rd : LowReg) (s : State) : Result := .next (s.store k addr (s.low rd))

/-- The registers of PUSH: the list, then R14 where R = 1 (R441). -/
def pushRegs (r : Bool) (rlist : BitVec 8) : List Reg := regsB rlist ++ if r then [14] else []

/-- The registers of POP: the list, then R15 where R = 1 (R442). -/
def popRegs (r : Bool) (rlist : BitVec 8) : List Reg := regsB rlist ++ if r then [15] else []

/-- An empty list is unpredictable (R161, R441-R444). -/
def emptyViolation (regs : List Reg) : Option Reason := firstViolation [(regs.isEmpty, .emptyList)]

/-- The word STMIA stores for a register (R443): a draw for the base when it is in the list and not the lowest. -/
def stmiaData (rb : Reg) (regs : List Reg) (s : State) (r : Reg) : Word :=
  if r == rb && regs.head? != some r then s.nextWord else s.reg r

/-- LDR (pc) (R420). -/
def execBLdrPc (rd : LowReg) (word8 : BitVec 8) (s : State) : Result :=
  loadB .word (s.pcBase + scaled word8 2) rd s

/-- STR (reg) (R421). -/
def execBStrReg (ro rb rd : LowReg) (s : State) : Result :=
  storeB .word (s.low rb + s.low ro) rd s

/-- STRB (reg) (R422). -/
def execBStrbReg (ro rb rd : LowReg) (s : State) : Result :=
  storeB .byte (s.low rb + s.low ro) rd s

/-- LDR (reg) (R423). -/
def execBLdrReg (ro rb rd : LowReg) (s : State) : Result :=
  loadB .word (s.low rb + s.low ro) rd s

/-- LDRB (reg) (R424). -/
def execBLdrbReg (ro rb rd : LowReg) (s : State) : Result :=
  loadB .byteU (s.low rb + s.low ro) rd s

/-- STRH (reg) (R425). -/
def execBStrhReg (ro rb rd : LowReg) (s : State) : Result :=
  storeB .half (s.low rb + s.low ro) rd s

/-- LDSB (reg) (R426). -/
def execBLdsbReg (ro rb rd : LowReg) (s : State) : Result :=
  loadB .byteS (s.low rb + s.low ro) rd s

/-- LDRH (reg) (R427). -/
def execBLdrhReg (ro rb rd : LowReg) (s : State) : Result :=
  loadB .halfU (s.low rb + s.low ro) rd s

/-- LDSH (reg) (R428). -/
def execBLdshReg (ro rb rd : LowReg) (s : State) : Result :=
  loadB .halfS (s.low rb + s.low ro) rd s

/-- STR (imm5) (R429). -/
def execBStrImm5 (offset5 : BitVec 5) (rb rd : LowReg) (s : State) : Result :=
  storeB .word (s.low rb + scaled offset5 2) rd s

/-- LDR (imm5) (R430). -/
def execBLdrImm5 (offset5 : BitVec 5) (rb rd : LowReg) (s : State) : Result :=
  loadB .word (s.low rb + scaled offset5 2) rd s

/-- STRB (imm5) (R431). -/
def execBStrbImm5 (offset5 : BitVec 5) (rb rd : LowReg) (s : State) : Result :=
  storeB .byte (s.low rb + scaled offset5 0) rd s

/-- LDRB (imm5) (R432). -/
def execBLdrbImm5 (offset5 : BitVec 5) (rb rd : LowReg) (s : State) : Result :=
  loadB .byteU (s.low rb + scaled offset5 0) rd s

/-- STRH (imm5) (R433). -/
def execBStrhImm5 (offset5 : BitVec 5) (rb rd : LowReg) (s : State) : Result :=
  storeB .half (s.low rb + scaled offset5 1) rd s

/-- LDRH (imm5) (R434). -/
def execBLdrhImm5 (offset5 : BitVec 5) (rb rd : LowReg) (s : State) : Result :=
  loadB .halfU (s.low rb + scaled offset5 1) rd s

/-- STR (sp) (R435). -/
def execBStrSp (rd : LowReg) (word8 : BitVec 8) (s : State) : Result :=
  storeB .word (s.reg 13 + scaled word8 2) rd s

/-- LDR (sp) (R436). -/
def execBLdrSp (rd : LowReg) (word8 : BitVec 8) (s : State) : Result :=
  loadB .word (s.reg 13 + scaled word8 2) rd s

/-- ADD (pc) (R437). -/
def execBAddPc (rd : LowReg) (word8 : BitVec 8) (s : State) : Result :=
  .next (s.setLow rd (s.pcBase + scaled word8 2))

/-- ADD (sp) (R438). -/
def execBAddSp (rd : LowReg) (word8 : BitVec 8) (s : State) : Result :=
  .next (s.setLow rd (s.reg 13 + scaled word8 2))

/-- ADD (sp imm) (R439). -/
def execBAddSpImm (sword7 : BitVec 7) (s : State) : Result :=
  .next (s.setReg 13 (s.reg 13 + scaled sword7 2))

/-- SUB (sp imm) (R440). -/
def execBSubSpImm (sword7 : BitVec 7) (s : State) : Result :=
  .next (s.setReg 13 (s.reg 13 - scaled sword7 2))

/-- PUSH (R441). -/
def execBPush (r : Bool) (rlist : BitVec 8) (s : State) : Result :=
  checked (emptyViolation (pushRegs r rlist)) s (
    let regs := pushRegs r rlist
    let start := s.reg 13 - spanOf regs.length
    .next ((s.storeWords start (regs.map s.reg)).setReg 13 start))

/-- POP (R442). -/
def execBPop (r : Bool) (rlist : BitVec 8) (s : State) : Result :=
  checked (emptyViolation (popRegs r rlist)) s (
    let regs := popRegs r rlist
    let start := s.reg 13
    let read := s.noteReads start regs
    .next ((read.setReg 13 (start + spanOf regs.length)).setRegs (s.readWords 0 start regs)))

/-- STMIA (R443). -/
def execBStmia (rb : LowReg) (rlist : BitVec 8) (s : State) : Result :=
  checked (emptyViolation (regsB rlist)) s (
    let regs := regsB rlist
    let base : Reg := Fin.ofNat 16 rb.val
    let stored := (s.storeWords (s.reg base) (regs.map (stmiaData base regs s))).drew (stmDraws true base regs)
    .next (stored.setReg base (s.reg base + spanOf regs.length)))

/-- LDMIA (R444). -/
def execBLdmia (rb : LowReg) (rlist : BitVec 8) (s : State) : Result :=
  checked (emptyViolation (regsB rlist)) s (
    let regs := regsB rlist
    let base : Reg := Fin.ofNat 16 rb.val
    let read := s.noteReads (s.reg base) regs
    let based := read.setReg base (s.reg base + spanOf regs.length)
    .next (drawBase (bit rlist rb.val) base (based.setRegs (s.readWords 0 (s.reg base) regs))))

end Sys2Proof.Machine
end

