-- ==== Sys2Proof/Machine/Transfers.lean ====
section
/-! DEFINITION. Set-A single, halfword and signed transfers (R290-R306). -/

namespace Sys2Proof.Machine

/-- Write back the base, where the access says so (R290). -/
def State.writeBack (s : State) (acc : Access) (rn : Reg) : State := if acc.wb then s.setReg rn acc.final else s

/-- A load into a register (R294, R296, R304-R306): the access, the write-back, then the data; R15 is a branch. -/
def loadSingle (k : LoadKind) (acc : Access) (rn rd : Reg) (s : State) : Result :=
  .next (((s.noteRead k.width acc.addr).writeBack acc rn).setReg rd (s.load k acc.addr))

/-- A store of a register (R295, R297, R303): the access, then the write-back. -/
def storeSingle (k : Width) (acc : Access) (rn : Reg) (data : Word) (s : State) : Result :=
  .next ((s.store k acc.addr data).writeBack acc rn)

/-- A-SDT loads (R290-R298, R300); `off` is Rm of a register offset, `offset` its value. -/
def sdtLoad (k : LoadKind) (narrow : Bool) (cond : Cond) (pre up wb : Bool) (rn rd : Reg) (off : Option Reg)
    (offset : Word) (s : State) : Result :=
  ifPassed cond s (checked (sdtViolation off narrow (!pre || wb) rn rd) s
    (loadSingle k (access pre up wb (s.reg rn) offset) rn rd s))

/-- A-SDT stores (R290-R293, R295, R297, R299, R301). -/
def sdtStore (k : Width) (narrow : Bool) (cond : Cond) (pre up wb : Bool) (rn rd : Reg) (off : Option Reg)
    (offset : Word) (s : State) : Result :=
  ifPassed cond s (checked (sdtViolation off narrow (!pre || wb) rn rd) s
    (storeSingle k (access pre up wb (s.reg rn) offset) rn (s.storeReg rd) s))

/-- A-HW loads (R302, R304-R306). -/
def hwLoad (k : LoadKind) (cond : Cond) (pre up wb : Bool) (rn rd : Reg) (off : Option Reg) (offset : Word)
    (s : State) : Result :=
  ifPassed cond s (checked (hwViolation off pre wb rn rd) s
    (loadSingle k (access pre up wb (s.reg rn) offset) rn rd s))

/-- A-HW stores (R302, R303). -/
def hwStore (cond : Cond) (pre up wb : Bool) (rn rd : Reg) (off : Option Reg) (offset : Word) (s : State) : Result :=
  ifPassed cond s (checked (hwViolation off pre wb rn rd) s
    (storeSingle .half (access pre up wb (s.reg rn) offset) rn (s.reg rd) s))

/-- LDR (imm, pre) (R294). -/
def execLdrImmPre (cond : Cond) (up wb : Bool) (rn rd : Reg) (offset : BitVec 12) (s : State) : Result :=
  sdtLoad .word false cond true up wb rn rd none (scaled offset 0) s

/-- LDR (imm, post) (R294). -/
def execLdrImmPost (cond : Cond) (up : Bool) (rn rd : Reg) (offset : BitVec 12) (s : State) : Result :=
  sdtLoad .word false cond false up false rn rd none (scaled offset 0) s

/-- LDR (reg, pre) (R294). -/
def execLdrRegPre (cond : Cond) (up wb : Bool) (rn rd : Reg) (amount : BitVec 5) (sh : ShiftType) (rm : Reg)
    (s : State) : Result :=
  sdtLoad .word false cond true up wb rn rd (some rm) (s.sdtOffset amount sh rm) s

/-- LDR (reg, post) (R294). -/
def execLdrRegPost (cond : Cond) (up : Bool) (rn rd : Reg) (amount : BitVec 5) (sh : ShiftType) (rm : Reg)
    (s : State) : Result :=
  sdtLoad .word false cond false up false rn rd (some rm) (s.sdtOffset amount sh rm) s

/-- STR (imm, pre) (R295). -/
def execStrImmPre (cond : Cond) (up wb : Bool) (rn rd : Reg) (offset : BitVec 12) (s : State) : Result :=
  sdtStore .word false cond true up wb rn rd none (scaled offset 0) s

/-- STR (imm, post) (R295). -/
def execStrImmPost (cond : Cond) (up : Bool) (rn rd : Reg) (offset : BitVec 12) (s : State) : Result :=
  sdtStore .word false cond false up false rn rd none (scaled offset 0) s

/-- STR (reg, pre) (R295). -/
def execStrRegPre (cond : Cond) (up wb : Bool) (rn rd : Reg) (amount : BitVec 5) (sh : ShiftType) (rm : Reg)
    (s : State) : Result :=
  sdtStore .word false cond true up wb rn rd (some rm) (s.sdtOffset amount sh rm) s

/-- STR (reg, post) (R295). -/
def execStrRegPost (cond : Cond) (up : Bool) (rn rd : Reg) (amount : BitVec 5) (sh : ShiftType) (rm : Reg)
    (s : State) : Result :=
  sdtStore .word false cond false up false rn rd (some rm) (s.sdtOffset amount sh rm) s

/-- LDRB (imm, pre) (R296). -/
def execLdrbImmPre (cond : Cond) (up wb : Bool) (rn rd : Reg) (offset : BitVec 12) (s : State) : Result :=
  sdtLoad .byteU true cond true up wb rn rd none (scaled offset 0) s

/-- LDRB (imm, post) (R296). -/
def execLdrbImmPost (cond : Cond) (up : Bool) (rn rd : Reg) (offset : BitVec 12) (s : State) : Result :=
  sdtLoad .byteU true cond false up false rn rd none (scaled offset 0) s

/-- LDRB (reg, pre) (R296). -/
def execLdrbRegPre (cond : Cond) (up wb : Bool) (rn rd : Reg) (amount : BitVec 5) (sh : ShiftType)
    (rm : Reg) (s : State) : Result :=
  sdtLoad .byteU true cond true up wb rn rd (some rm) (s.sdtOffset amount sh rm) s

/-- LDRB (reg, post) (R296). -/
def execLdrbRegPost (cond : Cond) (up : Bool) (rn rd : Reg) (amount : BitVec 5) (sh : ShiftType) (rm : Reg)
    (s : State) : Result :=
  sdtLoad .byteU true cond false up false rn rd (some rm) (s.sdtOffset amount sh rm) s

/-- STRB (imm, pre) (R297). -/
def execStrbImmPre (cond : Cond) (up wb : Bool) (rn rd : Reg) (offset : BitVec 12) (s : State) : Result :=
  sdtStore .byte true cond true up wb rn rd none (scaled offset 0) s

/-- STRB (imm, post) (R297). -/
def execStrbImmPost (cond : Cond) (up : Bool) (rn rd : Reg) (offset : BitVec 12) (s : State) : Result :=
  sdtStore .byte true cond false up false rn rd none (scaled offset 0) s

/-- STRB (reg, pre) (R297). -/
def execStrbRegPre (cond : Cond) (up wb : Bool) (rn rd : Reg) (amount : BitVec 5) (sh : ShiftType)
    (rm : Reg) (s : State) : Result :=
  sdtStore .byte true cond true up wb rn rd (some rm) (s.sdtOffset amount sh rm) s

/-- STRB (reg, post) (R297). -/
def execStrbRegPost (cond : Cond) (up : Bool) (rn rd : Reg) (amount : BitVec 5) (sh : ShiftType) (rm : Reg)
    (s : State) : Result :=
  sdtStore .byte true cond false up false rn rd (some rm) (s.sdtOffset amount sh rm) s

/-- LDRT (imm) (R298). -/
def execLdrtImm (cond : Cond) (up : Bool) (rn rd : Reg) (offset : BitVec 12) (s : State) : Result :=
  sdtLoad .word false cond false up true rn rd none (scaled offset 0) s

/-- LDRT (reg) (R298). -/
def execLdrtReg (cond : Cond) (up : Bool) (rn rd : Reg) (amount : BitVec 5) (sh : ShiftType) (rm : Reg)
    (s : State) : Result :=
  sdtLoad .word false cond false up true rn rd (some rm) (s.sdtOffset amount sh rm) s

/-- STRT (imm) (R299). -/
def execStrtImm (cond : Cond) (up : Bool) (rn rd : Reg) (offset : BitVec 12) (s : State) : Result :=
  sdtStore .word false cond false up true rn rd none (scaled offset 0) s

/-- STRT (reg) (R299). -/
def execStrtReg (cond : Cond) (up : Bool) (rn rd : Reg) (amount : BitVec 5) (sh : ShiftType) (rm : Reg)
    (s : State) : Result :=
  sdtStore .word false cond false up true rn rd (some rm) (s.sdtOffset amount sh rm) s

/-- LDRBT (imm) (R300). -/
def execLdrbtImm (cond : Cond) (up : Bool) (rn rd : Reg) (offset : BitVec 12) (s : State) : Result :=
  sdtLoad .byteU true cond false up true rn rd none (scaled offset 0) s

/-- LDRBT (reg) (R300). -/
def execLdrbtReg (cond : Cond) (up : Bool) (rn rd : Reg) (amount : BitVec 5) (sh : ShiftType) (rm : Reg)
    (s : State) : Result :=
  sdtLoad .byteU true cond false up true rn rd (some rm) (s.sdtOffset amount sh rm) s

/-- STRBT (imm) (R301). -/
def execStrbtImm (cond : Cond) (up : Bool) (rn rd : Reg) (offset : BitVec 12) (s : State) : Result :=
  sdtStore .byte true cond false up true rn rd none (scaled offset 0) s

/-- STRBT (reg) (R301). -/
def execStrbtReg (cond : Cond) (up : Bool) (rn rd : Reg) (amount : BitVec 5) (sh : ShiftType) (rm : Reg)
    (s : State) : Result :=
  sdtStore .byte true cond false up true rn rd (some rm) (s.sdtOffset amount sh rm) s

/-- STRH (imm) (R303). -/
def execStrhImm (cond : Cond) (pre up wb : Bool) (rn rd : Reg) (offset : BitVec 8) (s : State) : Result :=
  hwStore cond pre up wb rn rd none (scaled offset 0) s

/-- STRH (reg) (R303). -/
def execStrhReg (cond : Cond) (pre up wb : Bool) (rn rd rm : Reg) (s : State) : Result :=
  hwStore cond pre up wb rn rd (some rm) (s.reg rm) s

/-- LDRH (imm) (R304). -/
def execLdrhImm (cond : Cond) (pre up wb : Bool) (rn rd : Reg) (offset : BitVec 8) (s : State) : Result :=
  hwLoad .halfU cond pre up wb rn rd none (scaled offset 0) s

/-- LDRH (reg) (R304). -/
def execLdrhReg (cond : Cond) (pre up wb : Bool) (rn rd rm : Reg) (s : State) : Result :=
  hwLoad .halfU cond pre up wb rn rd (some rm) (s.reg rm) s

/-- LDRSB (imm) (R305). -/
def execLdrsbImm (cond : Cond) (pre up wb : Bool) (rn rd : Reg) (offset : BitVec 8) (s : State) : Result :=
  hwLoad .byteS cond pre up wb rn rd none (scaled offset 0) s

/-- LDRSB (reg) (R305). -/
def execLdrsbReg (cond : Cond) (pre up wb : Bool) (rn rd rm : Reg) (s : State) : Result :=
  hwLoad .byteS cond pre up wb rn rd (some rm) (s.reg rm) s

/-- LDRSH (imm) (R306). -/
def execLdrshImm (cond : Cond) (pre up wb : Bool) (rn rd : Reg) (offset : BitVec 8) (s : State) : Result :=
  hwLoad .halfS cond pre up wb rn rd none (scaled offset 0) s

/-- LDRSH (reg) (R306). -/
def execLdrshReg (cond : Cond) (pre up wb : Bool) (rn rd rm : Reg) (s : State) : Result :=
  hwLoad .halfS cond pre up wb rn rd (some rm) (s.reg rm) s

end Sys2Proof.Machine
end

