-- ==== Sys2Proof/Machine/Dispatch.lean ====
section
/-! DEFINITION. One arm for each instruction: a direct call of its meaning. -/

namespace Sys2Proof.Machine

def exec (i : Instr) (s : State) : Host.Outcome State Fault Refusal :=
  match i with
  | .andImm cond sf rn rd rotate imm8 => Sys2Proof.Machine.execAndImm cond sf rn rd rotate imm8 s
  | .andRegImm cond sf rn rd amount sh rm => Sys2Proof.Machine.execAndRegImm cond sf rn rd amount sh rm s
  | .andRegReg cond sf rn rd rs sh rm => Sys2Proof.Machine.execAndRegReg cond sf rn rd rs sh rm s
  | .eorImm cond sf rn rd rotate imm8 => Sys2Proof.Machine.execEorImm cond sf rn rd rotate imm8 s
  | .eorRegImm cond sf rn rd amount sh rm => Sys2Proof.Machine.execEorRegImm cond sf rn rd amount sh rm s
  | .eorRegReg cond sf rn rd rs sh rm => Sys2Proof.Machine.execEorRegReg cond sf rn rd rs sh rm s
  | .subImm cond sf rn rd rotate imm8 => Sys2Proof.Machine.execSubImm cond sf rn rd rotate imm8 s
  | .subRegImm cond sf rn rd amount sh rm => Sys2Proof.Machine.execSubRegImm cond sf rn rd amount sh rm s
  | .subRegReg cond sf rn rd rs sh rm => Sys2Proof.Machine.execSubRegReg cond sf rn rd rs sh rm s
  | .rsbImm cond sf rn rd rotate imm8 => Sys2Proof.Machine.execRsbImm cond sf rn rd rotate imm8 s
  | .rsbRegImm cond sf rn rd amount sh rm => Sys2Proof.Machine.execRsbRegImm cond sf rn rd amount sh rm s
  | .rsbRegReg cond sf rn rd rs sh rm => Sys2Proof.Machine.execRsbRegReg cond sf rn rd rs sh rm s
  | .addImm cond sf rn rd rotate imm8 => Sys2Proof.Machine.execAddImm cond sf rn rd rotate imm8 s
  | .addRegImm cond sf rn rd amount sh rm => Sys2Proof.Machine.execAddRegImm cond sf rn rd amount sh rm s
  | .addRegReg cond sf rn rd rs sh rm => Sys2Proof.Machine.execAddRegReg cond sf rn rd rs sh rm s
  | .adcImm cond sf rn rd rotate imm8 => Sys2Proof.Machine.execAdcImm cond sf rn rd rotate imm8 s
  | .adcRegImm cond sf rn rd amount sh rm => Sys2Proof.Machine.execAdcRegImm cond sf rn rd amount sh rm s
  | .adcRegReg cond sf rn rd rs sh rm => Sys2Proof.Machine.execAdcRegReg cond sf rn rd rs sh rm s
  | .sbcImm cond sf rn rd rotate imm8 => Sys2Proof.Machine.execSbcImm cond sf rn rd rotate imm8 s
  | .sbcRegImm cond sf rn rd amount sh rm => Sys2Proof.Machine.execSbcRegImm cond sf rn rd amount sh rm s
  | .sbcRegReg cond sf rn rd rs sh rm => Sys2Proof.Machine.execSbcRegReg cond sf rn rd rs sh rm s
  | .rscImm cond sf rn rd rotate imm8 => Sys2Proof.Machine.execRscImm cond sf rn rd rotate imm8 s
  | .rscRegImm cond sf rn rd amount sh rm => Sys2Proof.Machine.execRscRegImm cond sf rn rd amount sh rm s
  | .rscRegReg cond sf rn rd rs sh rm => Sys2Proof.Machine.execRscRegReg cond sf rn rd rs sh rm s
  | .tstImm cond rn rotate imm8 => Sys2Proof.Machine.execTstImm cond rn rotate imm8 s
  | .tstRegImm cond rn amount sh rm => Sys2Proof.Machine.execTstRegImm cond rn amount sh rm s
  | .tstRegReg cond rn rs sh rm => Sys2Proof.Machine.execTstRegReg cond rn rs sh rm s
  | .teqImm cond rn rotate imm8 => Sys2Proof.Machine.execTeqImm cond rn rotate imm8 s
  | .teqRegImm cond rn amount sh rm => Sys2Proof.Machine.execTeqRegImm cond rn amount sh rm s
  | .teqRegReg cond rn rs sh rm => Sys2Proof.Machine.execTeqRegReg cond rn rs sh rm s
  | .cmpImm cond rn rotate imm8 => Sys2Proof.Machine.execCmpImm cond rn rotate imm8 s
  | .cmpRegImm cond rn amount sh rm => Sys2Proof.Machine.execCmpRegImm cond rn amount sh rm s
  | .cmpRegReg cond rn rs sh rm => Sys2Proof.Machine.execCmpRegReg cond rn rs sh rm s
  | .cmnImm cond rn rotate imm8 => Sys2Proof.Machine.execCmnImm cond rn rotate imm8 s
  | .cmnRegImm cond rn amount sh rm => Sys2Proof.Machine.execCmnRegImm cond rn amount sh rm s
  | .cmnRegReg cond rn rs sh rm => Sys2Proof.Machine.execCmnRegReg cond rn rs sh rm s
  | .orrImm cond sf rn rd rotate imm8 => Sys2Proof.Machine.execOrrImm cond sf rn rd rotate imm8 s
  | .orrRegImm cond sf rn rd amount sh rm => Sys2Proof.Machine.execOrrRegImm cond sf rn rd amount sh rm s
  | .orrRegReg cond sf rn rd rs sh rm => Sys2Proof.Machine.execOrrRegReg cond sf rn rd rs sh rm s
  | .movImm cond sf rd rotate imm8 => Sys2Proof.Machine.execMovImm cond sf rd rotate imm8 s
  | .movRegImm cond sf rd amount sh rm => Sys2Proof.Machine.execMovRegImm cond sf rd amount sh rm s
  | .movRegReg cond sf rd rs sh rm => Sys2Proof.Machine.execMovRegReg cond sf rd rs sh rm s
  | .bicImm cond sf rn rd rotate imm8 => Sys2Proof.Machine.execBicImm cond sf rn rd rotate imm8 s
  | .bicRegImm cond sf rn rd amount sh rm => Sys2Proof.Machine.execBicRegImm cond sf rn rd amount sh rm s
  | .bicRegReg cond sf rn rd rs sh rm => Sys2Proof.Machine.execBicRegReg cond sf rn rd rs sh rm s
  | .mvnImm cond sf rd rotate imm8 => Sys2Proof.Machine.execMvnImm cond sf rd rotate imm8 s
  | .mvnRegImm cond sf rd amount sh rm => Sys2Proof.Machine.execMvnRegImm cond sf rd amount sh rm s
  | .mvnRegReg cond sf rd rs sh rm => Sys2Proof.Machine.execMvnRegReg cond sf rd rs sh rm s
  | .mrs cond psr rd => Sys2Proof.Machine.execMrs cond psr rd s
  | .msrReg cond psr mask rm => Sys2Proof.Machine.execMsrReg cond psr mask rm s
  | .msrImm cond psr mask rotate imm8 => Sys2Proof.Machine.execMsrImm cond psr mask rotate imm8 s
  | .mul cond sf rd rs rm => Sys2Proof.Machine.execMul cond sf rd rs rm s
  | .mla cond sf rd rn rs rm => Sys2Proof.Machine.execMla cond sf rd rn rs rm s
  | .umull cond sf rdHi rdLo rs rm => Sys2Proof.Machine.execUmull cond sf rdHi rdLo rs rm s
  | .umlal cond sf rdHi rdLo rs rm => Sys2Proof.Machine.execUmlal cond sf rdHi rdLo rs rm s
  | .smull cond sf rdHi rdLo rs rm => Sys2Proof.Machine.execSmull cond sf rdHi rdLo rs rm s
  | .smlal cond sf rdHi rdLo rs rm => Sys2Proof.Machine.execSmlal cond sf rdHi rdLo rs rm s
  | .ldrImmPre cond up wb rn rd offset => Sys2Proof.Machine.execLdrImmPre cond up wb rn rd offset s
  | .ldrImmPost cond up rn rd offset => Sys2Proof.Machine.execLdrImmPost cond up rn rd offset s
  | .ldrRegPre cond up wb rn rd amount sh rm => Sys2Proof.Machine.execLdrRegPre cond up wb rn rd amount sh rm s
  | .ldrRegPost cond up rn rd amount sh rm => Sys2Proof.Machine.execLdrRegPost cond up rn rd amount sh rm s
  | .strImmPre cond up wb rn rd offset => Sys2Proof.Machine.execStrImmPre cond up wb rn rd offset s
  | .strImmPost cond up rn rd offset => Sys2Proof.Machine.execStrImmPost cond up rn rd offset s
  | .strRegPre cond up wb rn rd amount sh rm => Sys2Proof.Machine.execStrRegPre cond up wb rn rd amount sh rm s
  | .strRegPost cond up rn rd amount sh rm => Sys2Proof.Machine.execStrRegPost cond up rn rd amount sh rm s
  | .ldrbImmPre cond up wb rn rd offset => Sys2Proof.Machine.execLdrbImmPre cond up wb rn rd offset s
  | .ldrbImmPost cond up rn rd offset => Sys2Proof.Machine.execLdrbImmPost cond up rn rd offset s
  | .ldrbRegPre cond up wb rn rd amount sh rm => Sys2Proof.Machine.execLdrbRegPre cond up wb rn rd amount sh rm s
  | .ldrbRegPost cond up rn rd amount sh rm => Sys2Proof.Machine.execLdrbRegPost cond up rn rd amount sh rm s
  | .strbImmPre cond up wb rn rd offset => Sys2Proof.Machine.execStrbImmPre cond up wb rn rd offset s
  | .strbImmPost cond up rn rd offset => Sys2Proof.Machine.execStrbImmPost cond up rn rd offset s
  | .strbRegPre cond up wb rn rd amount sh rm => Sys2Proof.Machine.execStrbRegPre cond up wb rn rd amount sh rm s
  | .strbRegPost cond up rn rd amount sh rm => Sys2Proof.Machine.execStrbRegPost cond up rn rd amount sh rm s
  | .ldrtImm cond up rn rd offset => Sys2Proof.Machine.execLdrtImm cond up rn rd offset s
  | .ldrtReg cond up rn rd amount sh rm => Sys2Proof.Machine.execLdrtReg cond up rn rd amount sh rm s
  | .strtImm cond up rn rd offset => Sys2Proof.Machine.execStrtImm cond up rn rd offset s
  | .strtReg cond up rn rd amount sh rm => Sys2Proof.Machine.execStrtReg cond up rn rd amount sh rm s
  | .ldrbtImm cond up rn rd offset => Sys2Proof.Machine.execLdrbtImm cond up rn rd offset s
  | .ldrbtReg cond up rn rd amount sh rm => Sys2Proof.Machine.execLdrbtReg cond up rn rd amount sh rm s
  | .strbtImm cond up rn rd offset => Sys2Proof.Machine.execStrbtImm cond up rn rd offset s
  | .strbtReg cond up rn rd amount sh rm => Sys2Proof.Machine.execStrbtReg cond up rn rd amount sh rm s
  | .strhImm cond pre up wb rn rd offset => Sys2Proof.Machine.execStrhImm cond pre up wb rn rd offset s
  | .strhReg cond pre up wb rn rd rm => Sys2Proof.Machine.execStrhReg cond pre up wb rn rd rm s
  | .ldrhImm cond pre up wb rn rd offset => Sys2Proof.Machine.execLdrhImm cond pre up wb rn rd offset s
  | .ldrhReg cond pre up wb rn rd rm => Sys2Proof.Machine.execLdrhReg cond pre up wb rn rd rm s
  | .ldrsbImm cond pre up wb rn rd offset => Sys2Proof.Machine.execLdrsbImm cond pre up wb rn rd offset s
  | .ldrsbReg cond pre up wb rn rd rm => Sys2Proof.Machine.execLdrsbReg cond pre up wb rn rd rm s
  | .ldrshImm cond pre up wb rn rd offset => Sys2Proof.Machine.execLdrshImm cond pre up wb rn rd offset s
  | .ldrshReg cond pre up wb rn rd rm => Sys2Proof.Machine.execLdrshReg cond pre up wb rn rd rm s
  | .ldm cond pre up sbit wb rn rlist => Sys2Proof.Machine.execLdm cond pre up sbit wb rn rlist s
  | .stm cond pre up sbit wb rn rlist => Sys2Proof.Machine.execStm cond pre up sbit wb rn rlist s
  | .swp cond rn rd rm => Sys2Proof.Machine.execSwp cond rn rd rm s
  | .swpb cond rn rd rm => Sys2Proof.Machine.execSwpb cond rn rd rm s
  | .b cond offset24 => Sys2Proof.Machine.execB cond offset24 s
  | .bl cond offset24 => Sys2Proof.Machine.execBl cond offset24 s
  | .bx cond rm => Sys2Proof.Machine.execBx cond rm s
  | .swi cond comment => Sys2Proof.Machine.execSwi cond comment s
  | .und cond hi lo => Sys2Proof.Machine.execUnd cond hi lo s
  | .ldc cond p u n w rn crd cp offset => Sys2Proof.Machine.execLdc cond p u n w rn crd cp offset s
  | .stc cond p u n w rn crd cp offset => Sys2Proof.Machine.execStc cond p u n w rn crd cp offset s
  | .cdp cond op1 crn crd cp op2 crm => Sys2Proof.Machine.execCdp cond op1 crn crd cp op2 crm s
  | .mcr cond op1 crn rd cp op2 crm => Sys2Proof.Machine.execMcr cond op1 crn rd cp op2 crm s
  | .mrc cond op1 crn rd cp op2 crm => Sys2Proof.Machine.execMrc cond op1 crn rd cp op2 crm s
  | .unsupportedMultiply word => Sys2Proof.Machine.execUnsupportedMultiply word s
  | .unsupportedSwap word => Sys2Proof.Machine.execUnsupportedSwap word s
  | .unsupportedHalfwordStore word => Sys2Proof.Machine.execUnsupportedHalfwordStore word s
  | .unsupportedMisc word => Sys2Proof.Machine.execUnsupportedMisc word s
  | .unsupportedImmMisc word => Sys2Proof.Machine.execUnsupportedImmMisc word s
  | .bLslImm offset5 rs rd => Sys2Proof.Machine.execBLslImm offset5 rs rd s
  | .bLsrImm offset5 rs rd => Sys2Proof.Machine.execBLsrImm offset5 rs rd s
  | .bAsrImm offset5 rs rd => Sys2Proof.Machine.execBAsrImm offset5 rs rd s
  | .bAddReg rn rs rd => Sys2Proof.Machine.execBAddReg rn rs rd s
  | .bSubReg rn rs rd => Sys2Proof.Machine.execBSubReg rn rs rd s
  | .bAddImm3 imm3 rs rd => Sys2Proof.Machine.execBAddImm3 imm3 rs rd s
  | .bSubImm3 imm3 rs rd => Sys2Proof.Machine.execBSubImm3 imm3 rs rd s
  | .bMovImm8 rd imm8 => Sys2Proof.Machine.execBMovImm8 rd imm8 s
  | .bCmpImm8 rd imm8 => Sys2Proof.Machine.execBCmpImm8 rd imm8 s
  | .bAddImm8 rd imm8 => Sys2Proof.Machine.execBAddImm8 rd imm8 s
  | .bSubImm8 rd imm8 => Sys2Proof.Machine.execBSubImm8 rd imm8 s
  | .bAndAlu rs rd => Sys2Proof.Machine.execBAndAlu rs rd s
  | .bEorAlu rs rd => Sys2Proof.Machine.execBEorAlu rs rd s
  | .bLslReg rs rd => Sys2Proof.Machine.execBLslReg rs rd s
  | .bLsrReg rs rd => Sys2Proof.Machine.execBLsrReg rs rd s
  | .bAsrReg rs rd => Sys2Proof.Machine.execBAsrReg rs rd s
  | .bAdcAlu rs rd => Sys2Proof.Machine.execBAdcAlu rs rd s
  | .bSbcAlu rs rd => Sys2Proof.Machine.execBSbcAlu rs rd s
  | .bRorReg rs rd => Sys2Proof.Machine.execBRorReg rs rd s
  | .bTstAlu rs rd => Sys2Proof.Machine.execBTstAlu rs rd s
  | .bNegAlu rs rd => Sys2Proof.Machine.execBNegAlu rs rd s
  | .bCmpAlu rs rd => Sys2Proof.Machine.execBCmpAlu rs rd s
  | .bCmnAlu rs rd => Sys2Proof.Machine.execBCmnAlu rs rd s
  | .bOrrAlu rs rd => Sys2Proof.Machine.execBOrrAlu rs rd s
  | .bMulAlu rs rd => Sys2Proof.Machine.execBMulAlu rs rd s
  | .bBicAlu rs rd => Sys2Proof.Machine.execBBicAlu rs rd s
  | .bMvnAlu rs rd => Sys2Proof.Machine.execBMvnAlu rs rd s
  | .bAddHi hd hs => Sys2Proof.Machine.execBAddHi hd hs s
  | .bCmpHi hd hs => Sys2Proof.Machine.execBCmpHi hd hs s
  | .bMovHi hd hs => Sys2Proof.Machine.execBMovHi hd hs s
  | .bBxHi h1 hs => Sys2Proof.Machine.execBBxHi h1 hs s
  | .bLdrPc rd word8 => Sys2Proof.Machine.execBLdrPc rd word8 s
  | .bStrReg ro rb rd => Sys2Proof.Machine.execBStrReg ro rb rd s
  | .bStrbReg ro rb rd => Sys2Proof.Machine.execBStrbReg ro rb rd s
  | .bLdrReg ro rb rd => Sys2Proof.Machine.execBLdrReg ro rb rd s
  | .bLdrbReg ro rb rd => Sys2Proof.Machine.execBLdrbReg ro rb rd s
  | .bStrhReg ro rb rd => Sys2Proof.Machine.execBStrhReg ro rb rd s
  | .bLdsbReg ro rb rd => Sys2Proof.Machine.execBLdsbReg ro rb rd s
  | .bLdrhReg ro rb rd => Sys2Proof.Machine.execBLdrhReg ro rb rd s
  | .bLdshReg ro rb rd => Sys2Proof.Machine.execBLdshReg ro rb rd s
  | .bStrImm5 offset5 rb rd => Sys2Proof.Machine.execBStrImm5 offset5 rb rd s
  | .bLdrImm5 offset5 rb rd => Sys2Proof.Machine.execBLdrImm5 offset5 rb rd s
  | .bStrbImm5 offset5 rb rd => Sys2Proof.Machine.execBStrbImm5 offset5 rb rd s
  | .bLdrbImm5 offset5 rb rd => Sys2Proof.Machine.execBLdrbImm5 offset5 rb rd s
  | .bStrhImm5 offset5 rb rd => Sys2Proof.Machine.execBStrhImm5 offset5 rb rd s
  | .bLdrhImm5 offset5 rb rd => Sys2Proof.Machine.execBLdrhImm5 offset5 rb rd s
  | .bStrSp rd word8 => Sys2Proof.Machine.execBStrSp rd word8 s
  | .bLdrSp rd word8 => Sys2Proof.Machine.execBLdrSp rd word8 s
  | .bAddPc rd word8 => Sys2Proof.Machine.execBAddPc rd word8 s
  | .bAddSp rd word8 => Sys2Proof.Machine.execBAddSp rd word8 s
  | .bAddSpImm sword7 => Sys2Proof.Machine.execBAddSpImm sword7 s
  | .bSubSpImm sword7 => Sys2Proof.Machine.execBSubSpImm sword7 s
  | .bPush r rlist => Sys2Proof.Machine.execBPush r rlist s
  | .bPop r rlist => Sys2Proof.Machine.execBPop r rlist s
  | .bStmia rb rlist => Sys2Proof.Machine.execBStmia rb rlist s
  | .bLdmia rb rlist => Sys2Proof.Machine.execBLdmia rb rlist s
  | .bBeq soffset8 => Sys2Proof.Machine.execBBeq soffset8 s
  | .bBne soffset8 => Sys2Proof.Machine.execBBne soffset8 s
  | .bBcs soffset8 => Sys2Proof.Machine.execBBcs soffset8 s
  | .bBcc soffset8 => Sys2Proof.Machine.execBBcc soffset8 s
  | .bBmi soffset8 => Sys2Proof.Machine.execBBmi soffset8 s
  | .bBpl soffset8 => Sys2Proof.Machine.execBBpl soffset8 s
  | .bBvs soffset8 => Sys2Proof.Machine.execBBvs soffset8 s
  | .bBvc soffset8 => Sys2Proof.Machine.execBBvc soffset8 s
  | .bBhi soffset8 => Sys2Proof.Machine.execBBhi soffset8 s
  | .bBls soffset8 => Sys2Proof.Machine.execBBls soffset8 s
  | .bBge soffset8 => Sys2Proof.Machine.execBBge soffset8 s
  | .bBlt soffset8 => Sys2Proof.Machine.execBBlt soffset8 s
  | .bBgt soffset8 => Sys2Proof.Machine.execBBgt soffset8 s
  | .bBle soffset8 => Sys2Proof.Machine.execBBle soffset8 s
  | .bSwi value8 => Sys2Proof.Machine.execBSwi value8 s
  | .bB offset11 => Sys2Proof.Machine.execBB offset11 s
  | .bBlPrefix offset11 => Sys2Proof.Machine.execBBlPrefix offset11 s
  | .bBlSuffix offset11 => Sys2Proof.Machine.execBBlSuffix offset11 s
  | .bUnd half => Sys2Proof.Machine.execBUnd half s

end Sys2Proof.Machine
end

