-- ==== Sys2Proof/Machine/Driver.lean ====
section
/-! DEFINITION. The driver: refill, advance, the tick, the halt loop and the fetch position (R540-R549, R490). -/

namespace Sys2Proof.Machine

namespace State

/-- The code in the `decoded` slot, in the set CPSR.T selects; bits 31:16 are not read in Set-B (R41, R121, R541). -/
def code (s : State) : Code := if s.tbit then .setB (field s.decoded 0 16) else .setA s.decoded

/-- `Refill()` (R544): two fetches at the aligned target. -/
def refill (s : State) : State :=
  let t := s.slot 15 &&& ~~~(s.inc - 1#32)
  let k := s.fetchWidth
  let read := (s.noteRead k t).noteRead k (t + s.inc)
  { read.setSlot 15 (t + 2#32 * s.inc) with
    decoded := s.answer 0 k t, prefetched := s.answer 1 k (t + s.inc), branchPending := false }

/-- `Advance()` (R545): one fetch. -/
def advance (s : State) : State :=
  let read := s.noteRead s.fetchWidth (s.slot 15)
  { read.setSlot 15 (s.slot 15 + s.inc) with decoded := s.prefetched, prefetched := s.peek s.fetchWidth (s.slot 15) }

/-- A host write of R15 between ticks is followed by a refill before the tick (R563; assumption log 17). -/
def settle (s : State) : State := if s.branchPending then s.refill else s

/-- Whether step 1 of a tick takes the IRQ (R42, R490). -/
def takesIrq (s : State) : Bool := s.irqLine && !s.ibit

/-- Step 1 of a tick (R490, R540): the IRQ entry and its refill. -/
def interruptCheck (s : State) : State := if s.takesIrq then (enterIrq s).refill else s

/-- The call of the trace sink, before the instruction's effects (R515). -/
def traced (s : State) : State :=
  match s.trace with
  | none => s
  | some calls =>
    { s with trace := some (⟨s.instrAddr, s.decoded, (decode s.code).mnemonic⟩ :: calls) }

/-- The state in which a tick executes its instruction: settled, the IRQ taken or not, the trace sink told. -/
def ready (s : State) : State := s.settle.interruptCheck.traced

/-- Steps 4 to 6 of a tick (R540): refill or advance in the set CPSR.T now selects, then the stop request. -/
def endTick (s : State) : State :=
  let moved := if s.branchPending then s.refill else s.advance
  { moved with driver := if s.stopRequest then .stopped else .running }

/-- Steps 3 to 6 of a tick (R540): a tick that finds the halt flag set goes into the halt loop, the rest of it follows
when the halt ends (R547; assumption log 8). -/
def afterExecute (s : State) : State := if s.haltFlag then { s with driver := .halted } else s.endTick

/-- Whether a poll of the halt loop ends it (R547, R548). -/
def haltEnds (s : State) : Bool :=
  s.stopRequest || !s.haltFlag || (s.haltTask && Config.haltAnswer s.draws)

/-- Whether a poll calls the halt task: only when neither flag has ended the halt before (R547). -/
def pollsTask (s : State) : Bool := !s.stopRequest && s.haltFlag && s.haltTask

/-- One poll of the halt loop (R547): when it ends the halt, the flag is cleared and the tick goes on. -/
def poll (s : State) : State :=
  let used := if s.pollsTask then s.drew 1 else s
  if s.haltEnds then { used with haltFlag := false, driver := .running : State }.endTick else used

end State

/-- Step 2 of a tick (R541): the instruction in `decoded`. -/
def execute (s : State) : Result := exec (decode s.code) s

/-- One tick (R540), up to a halt. -/
def tick (s : State) : Result := andThen (execute s.ready) fun t => .next t.afterExecute

/-- One step of the core: a tick when Running, a poll when Halted.  A stopped core does nothing (assumption log 9), a
faulted one stays stopped with its record (R54, R550; assumption log 10). -/
def stepOnce (s : State) : Result :=
  match s.driver with
  | .stopped => .next s
  | .running => tick s
  | .halted => .next s.poll
  | .faulted record => .fault record

/-- The Faulted state a step ends in (R54, R483, R549): the state in which the faulting instruction was to execute, with
an IRQ entry of the same tick done (R492), and the record (assumption log 10).  One instruction makes port calls before
it stops: LDM with S = 1 and R15 in the list reads its words before an SPSR with an invalid mode stops it (R311, R221).
Whether those reads count as made at the stop the spec leaves open; here the list of port calls lacks them (DESIGN
CHOICE, assumption log 10). -/
def stateAtFault (s : State) : State :=
  match stepOnce s with
  | .fault record =>
    match s.driver with
    | .running => { s.ready with driver := .faulted record }
    | _ => s
  | _ => s

/-- Write the bytes of a code from an address on (R82). -/
def placeBytes (m : Memory) (a : Nat) : List Byte → Memory
  | [] => m
  | b :: rest => placeBytes (m.setByte (a % 4294967296) b) (a + 1) rest

namespace State

/-- The state whose next step runs the code: the code stored at the address of the next instruction (R39), T set for its
set, and the pipeline filled from those bytes as a refill fills it (R50, R544; assumption log 16). -/
def withCode (s : State) (c : Code) : State :=
  let a := s.instrAddr &&& ~~~3#32
  let placed : State :=
    { s.setT c.isB with mem := placeBytes s.mem a.toNat c.bytes, driver := .running, irqLine := false }
  let k := placed.fetchWidth
  { placed.setSlot 15 (a + 2#32 * placed.inc) with
    decoded := placed.mem.read k a, prefetched := placed.mem.read k (a + placed.inc), branchPending := false }

end State

end Sys2Proof.Machine
end

