-- ==== Sys2Proof/Machine/Step.lean ====
section
/-! DEFINITION. The step of the core, and the state whose next step runs a given word of the opcode table. -/

namespace Sys2Proof.Machine

/-- One step: a driver tick, or a poll of a halt (R540, R547). -/
def step (s : State) : Host.Outcome State Fault Refusal := stepOnce s

/-- `s` with a row's word where the next step runs it (assumption log 16). -/
def State.withFetchWord (s : State) (nbits w : Nat) : State := s.withCode (tableCode nbits w)

end Sys2Proof.Machine
end

