-- ==== Sys2Proof/Machine/OpcodeTable.lean ====
section
/-! DEFINITION. The opcode table of the spec as data (R120): the mask, the match and the name of each row.  The decoder
does not use it; Obligations.DecoderFollowsTable compares the two. -/

namespace Sys2Proof.OpcodeTable

/-- One (mask, match) row. -/
structure Row (n : Nat) where
  mask : BitVec n
  value : BitVec n
  name : String
  deriving DecidableEq, Repr

/-- A word belongs to a row. -/
def Row.matches {n : Nat} (r : Row n) (w : BitVec n) : Bool := w &&& r.mask == r.value

/-- No word belongs to both rows: they differ in a bit both fix. -/
def Row.disjoint {n : Nat} (r q : Row n) : Bool := (r.value ^^^ q.value) &&& r.mask &&& q.mask != 0#n

/-- Rows 1 to 20 of Set-A. -/
def rowsA1 : List (Row 32) := [
  ⟨0x0FE00010#32, 0x00000000#32, "AND (reg-imm-shift)"⟩,
  ⟨0x0FE00090#32, 0x00000010#32, "AND (reg-reg-shift)"⟩,
  ⟨0x0FE000F0#32, 0x00000090#32, "MUL"⟩,
  ⟨0x0E5000F0#32, 0x000000B0#32, "STRH (reg)"⟩,
  ⟨0x0E1000D0#32, 0x000000D0#32, "Unsupported (reserved halfword store)"⟩,
  ⟨0x0E5000F0#32, 0x001000B0#32, "LDRH (reg)"⟩,
  ⟨0x0E5000F0#32, 0x001000D0#32, "LDRSB (reg)"⟩,
  ⟨0x0E5000F0#32, 0x001000F0#32, "LDRSH (reg)"⟩,
  ⟨0x0FE00010#32, 0x00200000#32, "EOR (reg-imm-shift)"⟩,
  ⟨0x0FE00090#32, 0x00200010#32, "EOR (reg-reg-shift)"⟩,
  ⟨0x0FE000F0#32, 0x00200090#32, "MLA"⟩,
  ⟨0x0FE00010#32, 0x00400000#32, "SUB (reg-imm-shift)"⟩,
  ⟨0x0FE00090#32, 0x00400010#32, "SUB (reg-reg-shift)"⟩,
  ⟨0x0FC000F0#32, 0x00400090#32, "Unsupported (reserved multiply)"⟩,
  ⟨0x0E5000F0#32, 0x004000B0#32, "STRH (imm)"⟩,
  ⟨0x0E5000F0#32, 0x005000B0#32, "LDRH (imm)"⟩,
  ⟨0x0E5000F0#32, 0x005000D0#32, "LDRSB (imm)"⟩,
  ⟨0x0E5000F0#32, 0x005000F0#32, "LDRSH (imm)"⟩,
  ⟨0x0FE00010#32, 0x00600000#32, "RSB (reg-imm-shift)"⟩,
  ⟨0x0FE00090#32, 0x00600010#32, "RSB (reg-reg-shift)"⟩]

/-- Rows 21 to 40 of Set-A. -/
def rowsA2 : List (Row 32) := [
  ⟨0x0FE00010#32, 0x00800000#32, "ADD (reg-imm-shift)"⟩,
  ⟨0x0FE00090#32, 0x00800010#32, "ADD (reg-reg-shift)"⟩,
  ⟨0x0FE000F0#32, 0x00800090#32, "UMULL"⟩,
  ⟨0x0FE00010#32, 0x00A00000#32, "ADC (reg-imm-shift)"⟩,
  ⟨0x0FE00090#32, 0x00A00010#32, "ADC (reg-reg-shift)"⟩,
  ⟨0x0FE000F0#32, 0x00A00090#32, "UMLAL"⟩,
  ⟨0x0FE00010#32, 0x00C00000#32, "SBC (reg-imm-shift)"⟩,
  ⟨0x0FE00090#32, 0x00C00010#32, "SBC (reg-reg-shift)"⟩,
  ⟨0x0FE000F0#32, 0x00C00090#32, "SMULL"⟩,
  ⟨0x0FE00010#32, 0x00E00000#32, "RSC (reg-imm-shift)"⟩,
  ⟨0x0FE00090#32, 0x00E00010#32, "RSC (reg-reg-shift)"⟩,
  ⟨0x0FE000F0#32, 0x00E00090#32, "SMLAL"⟩,
  ⟨0x0FB000F0#32, 0x01000000#32, "MRS"⟩,
  ⟨0x0F9000F0#32, 0x01000040#32, "Unsupported (reserved misc)"⟩,
  ⟨0x0F9000B0#32, 0x01000080#32, "Unsupported (reserved misc)"⟩,
  ⟨0x0F900030#32, 0x01000020#32, "Unsupported (reserved misc)"⟩,
  ⟨0x0FB000F0#32, 0x01000010#32, "Unsupported (reserved misc)"⟩,
  ⟨0x0FF000F0#32, 0x01600010#32, "Unsupported (reserved misc)"⟩,
  ⟨0x0F9000F0#32, 0x01000050#32, "Unsupported (reserved misc)"⟩,
  ⟨0x0F9000B0#32, 0x01000030#32, "Unsupported (reserved misc)"⟩]

/-- Rows 41 to 60 of Set-A. -/
def rowsA3 : List (Row 32) := [
  ⟨0x0FF000F0#32, 0x01000090#32, "SWP"⟩,
  ⟨0x0FF00010#32, 0x01100000#32, "TST (reg-imm-shift)"⟩,
  ⟨0x0FF00090#32, 0x01100010#32, "TST (reg-reg-shift)"⟩,
  ⟨0x0FB000F0#32, 0x01200090#32, "Unsupported (reserved swap)"⟩,
  ⟨0x0F9000F0#32, 0x01800090#32, "Unsupported (reserved swap)"⟩,
  ⟨0x0F1000F0#32, 0x01100090#32, "Unsupported (reserved swap)"⟩,
  ⟨0x0FB000F0#32, 0x01200000#32, "MSR (reg)"⟩,
  ⟨0x0FF000F0#32, 0x01200010#32, "BX"⟩,
  ⟨0x0FF00010#32, 0x01300000#32, "TEQ (reg-imm-shift)"⟩,
  ⟨0x0FF00090#32, 0x01300010#32, "TEQ (reg-reg-shift)"⟩,
  ⟨0x0FF000F0#32, 0x01400090#32, "SWPB"⟩,
  ⟨0x0FF00010#32, 0x01500000#32, "CMP (reg-imm-shift)"⟩,
  ⟨0x0FF00090#32, 0x01500010#32, "CMP (reg-reg-shift)"⟩,
  ⟨0x0FF00010#32, 0x01700000#32, "CMN (reg-imm-shift)"⟩,
  ⟨0x0FF00090#32, 0x01700010#32, "CMN (reg-reg-shift)"⟩,
  ⟨0x0FE00010#32, 0x01800000#32, "ORR (reg-imm-shift)"⟩,
  ⟨0x0FE00090#32, 0x01800010#32, "ORR (reg-reg-shift)"⟩,
  ⟨0x0FE00010#32, 0x01A00000#32, "MOV (reg-imm-shift)"⟩,
  ⟨0x0FE00090#32, 0x01A00010#32, "MOV (reg-reg-shift)"⟩,
  ⟨0x0FE00010#32, 0x01C00000#32, "BIC (reg-imm-shift)"⟩]

/-- Rows 61 to 80 of Set-A. -/
def rowsA4 : List (Row 32) := [
  ⟨0x0FE00090#32, 0x01C00010#32, "BIC (reg-reg-shift)"⟩,
  ⟨0x0FE00010#32, 0x01E00000#32, "MVN (reg-imm-shift)"⟩,
  ⟨0x0FE00090#32, 0x01E00010#32, "MVN (reg-reg-shift)"⟩,
  ⟨0x0FE00000#32, 0x02000000#32, "AND (imm)"⟩,
  ⟨0x0FE00000#32, 0x02200000#32, "EOR (imm)"⟩,
  ⟨0x0FE00000#32, 0x02400000#32, "SUB (imm)"⟩,
  ⟨0x0FE00000#32, 0x02600000#32, "RSB (imm)"⟩,
  ⟨0x0FE00000#32, 0x02800000#32, "ADD (imm)"⟩,
  ⟨0x0FE00000#32, 0x02A00000#32, "ADC (imm)"⟩,
  ⟨0x0FE00000#32, 0x02C00000#32, "SBC (imm)"⟩,
  ⟨0x0FE00000#32, 0x02E00000#32, "RSC (imm)"⟩,
  ⟨0x0FB00000#32, 0x03000000#32, "Unsupported (reserved immediate misc)"⟩,
  ⟨0x0FF00000#32, 0x03100000#32, "TST (imm)"⟩,
  ⟨0x0FB00000#32, 0x03200000#32, "MSR (imm)"⟩,
  ⟨0x0FF00000#32, 0x03300000#32, "TEQ (imm)"⟩,
  ⟨0x0FF00000#32, 0x03500000#32, "CMP (imm)"⟩,
  ⟨0x0FF00000#32, 0x03700000#32, "CMN (imm)"⟩,
  ⟨0x0FE00000#32, 0x03800000#32, "ORR (imm)"⟩,
  ⟨0x0FE00000#32, 0x03A00000#32, "MOV (imm)"⟩,
  ⟨0x0FE00000#32, 0x03C00000#32, "BIC (imm)"⟩]

/-- Rows 81 to 100 of Set-A. -/
def rowsA5 : List (Row 32) := [
  ⟨0x0FE00000#32, 0x03E00000#32, "MVN (imm)"⟩,
  ⟨0x0F700000#32, 0x04000000#32, "STR (imm, post)"⟩,
  ⟨0x0F700000#32, 0x04100000#32, "LDR (imm, post)"⟩,
  ⟨0x0F700000#32, 0x04200000#32, "STRT (imm)"⟩,
  ⟨0x0F700000#32, 0x04300000#32, "LDRT (imm)"⟩,
  ⟨0x0F700000#32, 0x04400000#32, "STRB (imm, post)"⟩,
  ⟨0x0F700000#32, 0x04500000#32, "LDRB (imm, post)"⟩,
  ⟨0x0F700000#32, 0x04600000#32, "STRBT (imm)"⟩,
  ⟨0x0F700000#32, 0x04700000#32, "LDRBT (imm)"⟩,
  ⟨0x0F500000#32, 0x05000000#32, "STR (imm, pre)"⟩,
  ⟨0x0F500000#32, 0x05100000#32, "LDR (imm, pre)"⟩,
  ⟨0x0F500000#32, 0x05400000#32, "STRB (imm, pre)"⟩,
  ⟨0x0F500000#32, 0x05500000#32, "LDRB (imm, pre)"⟩,
  ⟨0x0F700010#32, 0x06000000#32, "STR (reg, post)"⟩,
  ⟨0x0E000010#32, 0x06000010#32, "UND"⟩,
  ⟨0x0F700010#32, 0x06100000#32, "LDR (reg, post)"⟩,
  ⟨0x0F700010#32, 0x06200000#32, "STRT (reg)"⟩,
  ⟨0x0F700010#32, 0x06300000#32, "LDRT (reg)"⟩,
  ⟨0x0F700010#32, 0x06400000#32, "STRB (reg, post)"⟩,
  ⟨0x0F700010#32, 0x06500000#32, "LDRB (reg, post)"⟩]

/-- Rows 101 to 116 of Set-A. -/
def rowsA6 : List (Row 32) := [
  ⟨0x0F700010#32, 0x06600000#32, "STRBT (reg)"⟩,
  ⟨0x0F700010#32, 0x06700000#32, "LDRBT (reg)"⟩,
  ⟨0x0F500010#32, 0x07000000#32, "STR (reg, pre)"⟩,
  ⟨0x0F500010#32, 0x07100000#32, "LDR (reg, pre)"⟩,
  ⟨0x0F500010#32, 0x07400000#32, "STRB (reg, pre)"⟩,
  ⟨0x0F500010#32, 0x07500000#32, "LDRB (reg, pre)"⟩,
  ⟨0x0E100000#32, 0x08000000#32, "STM"⟩,
  ⟨0x0E100000#32, 0x08100000#32, "LDM"⟩,
  ⟨0x0F000000#32, 0x0A000000#32, "B"⟩,
  ⟨0x0F000000#32, 0x0B000000#32, "BL"⟩,
  ⟨0x0E100000#32, 0x0C000000#32, "STC"⟩,
  ⟨0x0E100000#32, 0x0C100000#32, "LDC"⟩,
  ⟨0x0F000010#32, 0x0E000000#32, "CDP"⟩,
  ⟨0x0F100010#32, 0x0E000010#32, "MCR"⟩,
  ⟨0x0F100010#32, 0x0E100010#32, "MRC"⟩,
  ⟨0x0F000000#32, 0x0F000000#32, "SWI"⟩]

/-- The rows of Set-A. -/
def rowsA : List (Row 32) := rowsA1 ++ rowsA2 ++ rowsA3 ++ rowsA4 ++ rowsA5 ++ rowsA6

/-- Rows 1 to 20 of Set-B. -/
def rowsB1 : List (Row 16) := [
  ⟨0xF800#16, 0x0000#16, "LSL (imm)"⟩,
  ⟨0xF800#16, 0x0800#16, "LSR (imm)"⟩,
  ⟨0xF800#16, 0x1000#16, "ASR (imm)"⟩,
  ⟨0xFE00#16, 0x1800#16, "ADD (reg)"⟩,
  ⟨0xFE00#16, 0x1A00#16, "SUB (reg)"⟩,
  ⟨0xFE00#16, 0x1C00#16, "ADD (imm3)"⟩,
  ⟨0xFE00#16, 0x1E00#16, "SUB (imm3)"⟩,
  ⟨0xF800#16, 0x2000#16, "MOV (imm8)"⟩,
  ⟨0xF800#16, 0x2800#16, "CMP (imm8)"⟩,
  ⟨0xF800#16, 0x3000#16, "ADD (imm8)"⟩,
  ⟨0xF800#16, 0x3800#16, "SUB (imm8)"⟩,
  ⟨0xFFC0#16, 0x4000#16, "AND (alu)"⟩,
  ⟨0xFFC0#16, 0x4040#16, "EOR (alu)"⟩,
  ⟨0xFFC0#16, 0x4080#16, "LSL (reg)"⟩,
  ⟨0xFFC0#16, 0x40C0#16, "LSR (reg)"⟩,
  ⟨0xFFC0#16, 0x4100#16, "ASR (reg)"⟩,
  ⟨0xFFC0#16, 0x4140#16, "ADC (alu)"⟩,
  ⟨0xFFC0#16, 0x4180#16, "SBC (alu)"⟩,
  ⟨0xFFC0#16, 0x41C0#16, "ROR (reg)"⟩,
  ⟨0xFFC0#16, 0x4200#16, "TST (alu)"⟩]

/-- Rows 21 to 40 of Set-B. -/
def rowsB2 : List (Row 16) := [
  ⟨0xFFC0#16, 0x4240#16, "NEG (alu)"⟩,
  ⟨0xFFC0#16, 0x4280#16, "CMP (alu)"⟩,
  ⟨0xFFC0#16, 0x42C0#16, "CMN (alu)"⟩,
  ⟨0xFFC0#16, 0x4300#16, "ORR (alu)"⟩,
  ⟨0xFFC0#16, 0x4340#16, "MUL (alu)"⟩,
  ⟨0xFFC0#16, 0x4380#16, "BIC (alu)"⟩,
  ⟨0xFFC0#16, 0x43C0#16, "MVN (alu)"⟩,
  ⟨0xFF00#16, 0x4400#16, "ADD (hi)"⟩,
  ⟨0xFF00#16, 0x4500#16, "CMP (hi)"⟩,
  ⟨0xFF00#16, 0x4600#16, "MOV (hi)"⟩,
  ⟨0xFF00#16, 0x4700#16, "BX (hi)"⟩,
  ⟨0xF800#16, 0x4800#16, "LDR (pc)"⟩,
  ⟨0xFE00#16, 0x5000#16, "STR (reg)"⟩,
  ⟨0xFE00#16, 0x5200#16, "STRH (reg)"⟩,
  ⟨0xFE00#16, 0x5400#16, "STRB (reg)"⟩,
  ⟨0xFE00#16, 0x5600#16, "LDSB (reg)"⟩,
  ⟨0xFE00#16, 0x5800#16, "LDR (reg)"⟩,
  ⟨0xFE00#16, 0x5A00#16, "LDRH (reg)"⟩,
  ⟨0xFE00#16, 0x5C00#16, "LDRB (reg)"⟩,
  ⟨0xFE00#16, 0x5E00#16, "LDSH (reg)"⟩]

/-- Rows 41 to 60 of Set-B. -/
def rowsB3 : List (Row 16) := [
  ⟨0xF800#16, 0x6000#16, "STR (imm5)"⟩,
  ⟨0xF800#16, 0x6800#16, "LDR (imm5)"⟩,
  ⟨0xF800#16, 0x7000#16, "STRB (imm5)"⟩,
  ⟨0xF800#16, 0x7800#16, "LDRB (imm5)"⟩,
  ⟨0xF800#16, 0x8000#16, "STRH (imm5)"⟩,
  ⟨0xF800#16, 0x8800#16, "LDRH (imm5)"⟩,
  ⟨0xF800#16, 0x9000#16, "STR (sp)"⟩,
  ⟨0xF800#16, 0x9800#16, "LDR (sp)"⟩,
  ⟨0xF800#16, 0xA000#16, "ADD (pc)"⟩,
  ⟨0xF800#16, 0xA800#16, "ADD (sp)"⟩,
  ⟨0xFF80#16, 0xB000#16, "ADD (sp imm)"⟩,
  ⟨0xFF80#16, 0xB080#16, "SUB (sp imm)"⟩,
  ⟨0xFF00#16, 0xB100#16, "UND (B)"⟩,
  ⟨0xFE00#16, 0xB200#16, "UND (B)"⟩,
  ⟨0xFE00#16, 0xB600#16, "UND (B)"⟩,
  ⟨0xFC00#16, 0xB800#16, "UND (B)"⟩,
  ⟨0xFE00#16, 0xBE00#16, "UND (B)"⟩,
  ⟨0xFF00#16, 0xDE00#16, "UND (B)"⟩,
  ⟨0xF800#16, 0xE800#16, "UND (B)"⟩,
  ⟨0xFE00#16, 0xB400#16, "PUSH"⟩]

/-- Rows 61 to 80 of Set-B. -/
def rowsB4 : List (Row 16) := [
  ⟨0xFE00#16, 0xBC00#16, "POP"⟩,
  ⟨0xF800#16, 0xC000#16, "STMIA"⟩,
  ⟨0xF800#16, 0xC800#16, "LDMIA"⟩,
  ⟨0xFF00#16, 0xD000#16, "BEQ"⟩,
  ⟨0xFF00#16, 0xD100#16, "BNE"⟩,
  ⟨0xFF00#16, 0xD200#16, "BCS"⟩,
  ⟨0xFF00#16, 0xD300#16, "BCC"⟩,
  ⟨0xFF00#16, 0xD400#16, "BMI"⟩,
  ⟨0xFF00#16, 0xD500#16, "BPL"⟩,
  ⟨0xFF00#16, 0xD600#16, "BVS"⟩,
  ⟨0xFF00#16, 0xD700#16, "BVC"⟩,
  ⟨0xFF00#16, 0xD800#16, "BHI"⟩,
  ⟨0xFF00#16, 0xD900#16, "BLS"⟩,
  ⟨0xFF00#16, 0xDA00#16, "BGE"⟩,
  ⟨0xFF00#16, 0xDB00#16, "BLT"⟩,
  ⟨0xFF00#16, 0xDC00#16, "BGT"⟩,
  ⟨0xFF00#16, 0xDD00#16, "BLE"⟩,
  ⟨0xFF00#16, 0xDF00#16, "SWI (B)"⟩,
  ⟨0xF800#16, 0xE000#16, "B (B)"⟩,
  ⟨0xF800#16, 0xF000#16, "BL (prefix)"⟩]

/-- Rows 81 to 81 of Set-B. -/
def rowsB5 : List (Row 16) := [
  ⟨0xF800#16, 0xF800#16, "BL (suffix)"⟩]

/-- The rows of Set-B. -/
def rowsB : List (Row 16) := rowsB1 ++ rowsB2 ++ rowsB3 ++ rowsB4 ++ rowsB5

end Sys2Proof.OpcodeTable
end

