-- ==== Sys2Proof/Machine/HostPort.lean ====
section
/-! DEFINITION. The host port (R560-R563, R530, R532): each call as a function on the state between two steps
(assumption log 21).  A call with no move in a state answers none (assumption log 22). -/

namespace Sys2Proof.Machine.HostPort

/-- `start()` (R530): the reset of the core, with the OPEN parameters as arguments; defined only when Stopped (R560). -/
def start (p : Config.StartParams) (s : State) : Option State :=
  match s.driver with
  | .stopped =>
    let zeroed : State := { s with slots := (Vector.replicate 37 0#32).set 15 (s.slot 15), stopRequest := false }
    let pointers := ((zeroed.setSlot 25 p.spSvc).setSlot 31 p.spIrq).setSlot 13 p.spUsr
    let entered := ((pointers.setCpsr 0x0000001F#32).setSlot 15 p.entry).refill
    some { entered with driver := .running }
  | _ => none

/-- `stop()` (R548): no effect when Stopped or Faulted. -/
def stop (s : State) : State :=
  match s.driver with
  | .running | .halted => { s with stopRequest := true }
  | .stopped | .faulted _ => s

/-- `isRunning()` (R560): Running or Halted. -/
def isRunning (s : State) : Bool :=
  match s.driver with
  | .running | .halted => true
  | .stopped | .faulted _ => false

/-- `halt(b)` (R52, R560). -/
def halt (b : Bool) (s : State) : State := { s with haltFlag := b }

/-- `isHalted()` (R560): the halt flag. -/
def isHalted (s : State) : Bool := s.haltFlag

/-- `irq(b)` (R52, R560). -/
def irq (b : Bool) (s : State) : State := { s with irqLine := b }

/-- `inIRQ()` under the OPEN parameter INIRQ_MEANING (R561). -/
def inIrq (meaning : Config.InIrqMeaning) (s : State) : Bool :=
  match meaning with
  | .line => s.irqLine
  | .mode => s.modeBits == Mode.irq.bits

/-- What the host may see only between ticks (R560), or when the core has stopped (R548, R550).  A halt lies within a
tick (R547): the spec gives no answer there, and the model answers none (DESIGN CHOICE, assumption log 22). -/
def betweenTicks (s : State) (seen : Option Word) : Option Word :=
  match s.driver with
  | .halted => none
  | .stopped | .running | .faulted _ => seen

/-- `getProgramCounter()` (R39, R561): the address of the next instruction to execute; none while Halted (assumption
log 22). -/
def getProgramCounter (s : State) : Option Word := betweenTicks s (some s.instrAddr)

/-- `getNextInstruction()` (R561); none while Halted (assumption log 22). -/
def getNextInstruction (s : State) : Option Word := betweenTicks s (some s.decoded)

/-- `getPreFetch()` (R561); none while Halted (assumption log 22). -/
def getPreFetch (s : State) : Option Word := betweenTicks s (some s.prefetched)

/-- `setHaltTask(f)` (R560): whether a task is set; its answers are free values (R547). -/
def setHaltTask (present : Bool) (s : State) : State := { s with haltTask := present }

/-- Attach a trace sink, or detach it (R515). -/
def attachTrace (attached : Bool) (s : State) : State := { s with trace := if attached then some [] else none }

/-- `read(mode, i)` (R560): the slot, between ticks or when the core has stopped; none for index 17 in a mode without
SPSR and while Halted (assumption log 22). -/
def read (m : Mode) (i : Fin 18) (s : State) : Option Word := betweenTicks s ((physicalSlot m i).map s.slot)

/-- `write(mode, i, v)` (R563), while Stopped or between ticks: i = 15 sets branchPending; a CPSR value is checked as
MSR checks it, and a stop of the check makes the core Faulted (assumption log 14). -/
def write (m : Mode) (i : Fin 18) (v : Word) (s : State) : Option State :=
  match s.driver with
  | .halted | .faulted _ => none
  | .stopped | .running =>
    (physicalSlot m i).map fun (k : Fin 37) =>
      if k = 15 then s.writePc v
      else if k = 16 then
        match acceptCpsr v s with
        | .next t => t
        | .fault record => { s with driver := .faulted record }
        | .refused _ => s
      else s.setSlot k v

/-- The memory collaborator puts a byte in place, between two steps: it is populated before `start()` (R535), and what it
changes later the core sees (R98 a). -/
def populate (a : Word) (b : Byte) (s : State) : State := { s with mem := s.mem.setByte a.toNat b }

/-- Which regions the collaborator does not keep as plain memory (R81, R85; assumption log 5). -/
def mapRegions (regions : List Region) (s : State) : State := { s with regions := regions }

/-- An error of the memory collaborator (R86, R483): a stop that carries whatever the collaborator raises, with no defined
core state after it (assumption log 7). -/
def portError (raised : String) (s : State) : State := { s with driver := .faulted (.memoryPort raised) }

end Sys2Proof.Machine.HostPort
end

