-- ==== Sys2Proof/Safety.lean ====
section
/-! DEFINITION. What the claims are stated in: the invariant of every reachable state, the parts of the state a frame
names, the spec's arithmetic in plain numbers, groups of instructions of one shape, and the effects they share. -/

namespace Sys2Proof.Safety

open Sys2Proof.Machine

/-! ### The invariant -/

/-- A PC the active set may execute at (R37, R38): a multiple of the instruction width. -/
def aligned (s : State) : Prop := s.slot 15 &&& (s.inc - 1#32) = 0#32

/-- In Set-B both pipeline words are halfwords, zero-extended (R49). -/
def halfwordSlots (s : State) : Prop := s.tbit = true → s.decoded.toNat < 65536 ∧ s.prefetched.toNat < 65536

/-- The invariant every step keeps: the memory list is canonical (R81), CPSR.M is one of the seven modes (R45), and,
unless a write of R15 is still to be followed by a refill, the PC is aligned for the active set (R38, R90) and the
pipeline words have its width (R49). -/
structure Inv (s : State) : Prop where
  memory : s.mem.wf = true
  mode : validMode s.cpsr = true
  pc : s.branchPending = false → aligned s
  slots : s.branchPending = false → halfwordSlots s

/-- At the start of a tick the pipeline holds the next instruction (R50): nothing is pending and no IRQ is taken, so the
tick executes `decoded` as it stands. -/
structure Ready (s : State) : Prop where
  running : s.driver = .running
  settled : s.branchPending = false
  quiet : s.takesIrq = false

/-! ### Frames -/

/-- The pipeline words, the driver, the host's flags, the trace and the collaborator's regions are the same: no
instruction changes them (R49, R51, R52, R85, R515). -/
structure SameOutside (s t : State) : Prop where
  decoded : t.decoded = s.decoded
  prefetched : t.prefetched = s.prefetched
  driver : t.driver = s.driver
  stopRequest : t.stopRequest = s.stopRequest
  irqLine : t.irqLine = s.irqLine
  haltFlag : t.haltFlag = s.haltFlag
  haltTask : t.haltTask = s.haltTask
  trace : t.trace = s.trace
  regions : t.regions = s.regions

/-- The register slots of `t` and `s` agree outside the listed ones. -/
def SlotsSameBut (ks : List (Fin 37)) (s t : State) : Prop := ∀ k : Fin 37, k ∉ ks → t.slot k = s.slot k

/-- Only the listed register slots may differ, of the slots and of what `SameOutside` names. -/
structure Frame (ks : List (Fin 37)) (s t : State) : Prop where
  slots : SlotsSameBut ks s t
  outside : SameOutside s t

/-- CPSR agrees outside the four flags (R40, R48). -/
def CpsrSameButFlags (s t : State) : Prop := ∀ k : Nat, k < 28 → bit t.cpsr k = bit s.cpsr k

/-- Every byte of memory reads as before. -/
def SameMemory (s t : State) : Prop := ∀ a : Nat, t.mem.byteAt a = s.mem.byteAt a

/-- Every byte of memory outside the access reads as before; the access is `k.bytes` bytes from its aligned-down address
(R84). -/
def SameMemoryBut (k : Width) (addr : Word) (s t : State) : Prop :=
  ∀ a : Nat, (a < (k.alignDown addr).toNat ∨ (k.alignDown addr).toNat + k.bytes ≤ a) →
    t.mem.byteAt a = s.mem.byteAt a

/-- No access: memory reads as before and the port is not called (R92). -/
structure NoAccess (s t : State) : Prop where
  memory : SameMemory s t
  port : t.port = s.port

/-- The four flags are the given ones where `sets` holds, else as before; the rest of CPSR is as before (R48). -/
structure Flags (sets : Bool) (n z c v : Bool) (s t : State) : Prop where
  n : t.flagN = if sets then n else s.flagN
  z : t.flagZ = if sets then z else s.flagZ
  c : t.flagC = if sets then c else s.flagC
  v : t.flagV = if sets then v else s.flagV
  rest : CpsrSameButFlags s t

/-! ### The sixteen operations in plain numbers (R224-R239) -/

/-- The result, modulo 2^32: `1 - c` is the borrow of SBC and RSC. -/
def aluResult (op : DpOp) (a b : Word) (c : Bool) : Word :=
  let borrow : Word := if c then 0#32 else 1#32
  match op with
  | .and | .tst => a &&& b
  | .eor | .teq => a ^^^ b
  | .sub | .cmp => a - b
  | .rsb => b - a
  | .add | .cmn => a + b
  | .adc => a + b + if c then 1#32 else 0#32
  | .sbc => a - b - borrow
  | .rsc => b - a - borrow
  | .orr => a ||| b
  | .mov => b
  | .bic => a &&& ~~~b
  | .mvn => ~~~b

/-- C after the operation: the carry of an addition, "no borrow" of a subtraction (R186), the shifter's carry `shc` of a
logical operation (R188). -/
def aluCarry (op : DpOp) (a b : Word) (c shc : Bool) : Bool :=
  match op with
  | .add | .cmn => decide (2 ^ 32 ≤ a.toNat + b.toNat)
  | .adc => decide (2 ^ 32 ≤ a.toNat + b.toNat + c.toNat)
  | .sub | .cmp => decide (b.toNat ≤ a.toNat)
  | .rsb => decide (a.toNat ≤ b.toNat)
  | .sbc => decide (b.toNat + (!c).toNat ≤ a.toNat)
  | .rsc => decide (a.toNat + (!c).toNat ≤ b.toNat)
  | .and | .eor | .tst | .teq | .orr | .mov | .bic | .mvn => shc

/-- An exact signed result that 32 bits cannot hold (R185). -/
def outOfRange (x : Int) : Bool := decide (x < -2 ^ 31 ∨ 2 ^ 31 ≤ x)

/-- V after the operation: the exact signed result does not fit (R185); unchanged by a logical operation (R188). -/
def aluOverflow (op : DpOp) (a b : Word) (c v : Bool) : Bool :=
  match op with
  | .add | .cmn => outOfRange (a.toInt + b.toInt)
  | .adc => outOfRange (a.toInt + b.toInt + c.toNat)
  | .sub | .cmp => outOfRange (a.toInt - b.toInt)
  | .rsb => outOfRange (b.toInt - a.toInt)
  | .sbc => outOfRange (a.toInt - b.toInt - (!c).toNat)
  | .rsc => outOfRange (b.toInt - a.toInt - (!c).toNat)
  | .and | .eor | .tst | .teq | .orr | .mov | .bic | .mvn => v

/-- The effect of a data-processing instruction whose destination is not R15 (R220): the result, the flags when `sets`
holds, and nothing else. `a` is the first operand, `op2` the second with the shifter's carry. -/
structure DpEffect (op : DpOp) (sets : Bool) (rd : Reg) (a : Word) (op2 : Shifted) (s t : State) : Prop where
  result : writesRd op = true → t.reg rd = aluResult op a op2.value s.flagC
  flags : Flags sets (bit (aluResult op a op2.value s.flagC) 31)
    (decide (aluResult op a op2.value s.flagC = 0#32)) (aluCarry op a op2.value s.flagC op2.carry)
    (aluOverflow op a op2.value s.flagC s.flagV) s t
  frame : Frame ((if writesRd op then [regSlot s.bank rd] else []) ++ [16]) s t
  pending : t.branchPending = s.branchPending
  draws : t.draws = s.draws
  access : NoAccess s t

/-- The first operand of a data-processing instruction: MOV and MVN have none (R220). -/
def firstOperand (op : DpOp) (rn : Reg) (s : State) : Word := if usesRn op then s.reg rn else 0#32

/-! ### Single transfers -/

/-- The indexing of a word or byte transfer: pre-indexed with or without write-back, post-indexed, or the T form (R290). -/
inductive Indexing
  | pre (wb : Bool) | post | user
  deriving DecidableEq, Repr

/-- Pre-indexed. -/
def Indexing.isPre : Indexing → Bool
  | .pre _ => true
  | .post | .user => false

/-- The base is written back (R290). -/
def Indexing.writesBack : Indexing → Bool
  | .pre wb => wb
  | .post | .user => true

/-- The offset of a word or byte transfer (R290, R291). -/
inductive Offset
  | imm (offset : BitVec 12)
  | reg (amount : BitVec 5) (sh : ShiftType) (rm : Reg)
  deriving DecidableEq, Repr

/-- The value of the offset (R290, R291). -/
def Offset.value (off : Offset) (s : State) : Word :=
  match off with
  | .imm o => o.setWidth 32
  | .reg amount sh rm => (shift sh amount.toNat false (s.reg rm) s.flagC).value

/-- The register of a register offset is not R15 (R292). -/
def Offset.notPc : Offset → Bool
  | .imm _ => true
  | .reg _ _ rm => decide (rm ≠ 15)

/-- LDR, LDRB, LDRT and LDRBT in every form (R294, R296, R298, R300). -/
def load (byte : Bool) (ix : Indexing) (cond : Cond) (up : Bool) (rn rd : Reg) (off : Offset) : Instr :=
  match byte, ix, off with
  | false, .pre wb, .imm o => .ldrImmPre cond up wb rn rd o
  | false, .pre wb, .reg a sh rm => .ldrRegPre cond up wb rn rd a sh rm
  | false, .post, .imm o => .ldrImmPost cond up rn rd o
  | false, .post, .reg a sh rm => .ldrRegPost cond up rn rd a sh rm
  | false, .user, .imm o => .ldrtImm cond up rn rd o
  | false, .user, .reg a sh rm => .ldrtReg cond up rn rd a sh rm
  | true, .pre wb, .imm o => .ldrbImmPre cond up wb rn rd o
  | true, .pre wb, .reg a sh rm => .ldrbRegPre cond up wb rn rd a sh rm
  | true, .post, .imm o => .ldrbImmPost cond up rn rd o
  | true, .post, .reg a sh rm => .ldrbRegPost cond up rn rd a sh rm
  | true, .user, .imm o => .ldrbtImm cond up rn rd o
  | true, .user, .reg a sh rm => .ldrbtReg cond up rn rd a sh rm

/-- STR, STRB, STRT and STRBT in every form (R295, R297, R299, R301). -/
def store (byte : Bool) (ix : Indexing) (cond : Cond) (up : Bool) (rn rd : Reg) (off : Offset) : Instr :=
  match byte, ix, off with
  | false, .pre wb, .imm o => .strImmPre cond up wb rn rd o
  | false, .pre wb, .reg a sh rm => .strRegPre cond up wb rn rd a sh rm
  | false, .post, .imm o => .strImmPost cond up rn rd o
  | false, .post, .reg a sh rm => .strRegPost cond up rn rd a sh rm
  | false, .user, .imm o => .strtImm cond up rn rd o
  | false, .user, .reg a sh rm => .strtReg cond up rn rd a sh rm
  | true, .pre wb, .imm o => .strbImmPre cond up wb rn rd o
  | true, .pre wb, .reg a sh rm => .strbRegPre cond up wb rn rd a sh rm
  | true, .post, .imm o => .strbImmPost cond up rn rd o
  | true, .post, .reg a sh rm => .strbRegPost cond up rn rd a sh rm
  | true, .user, .imm o => .strbtImm cond up rn rd o
  | true, .user, .reg a sh rm => .strbtReg cond up rn rd a sh rm

/-- The operands rule R292 permits. -/
def transferPermitted (byte : Bool) (ix : Indexing) (rn rd : Reg) (off : Offset) : Bool :=
  off.notPc && (!ix.writesBack || (decide (rn ≠ 15) && decide (rn ≠ rd))) && (!byte || decide (rd ≠ 15))

/-- The offset of a halfword or signed transfer (R302). -/
inductive HalfOffset
  | imm (offset : BitVec 8)
  | reg (rm : Reg)
  deriving DecidableEq, Repr

/-- The value of the offset (R302). -/
def HalfOffset.value (off : HalfOffset) (s : State) : Word :=
  match off with
  | .imm o => o.setWidth 32
  | .reg rm => s.reg rm

/-- The register of a register offset is not R15 (R302). -/
def HalfOffset.notPc : HalfOffset → Bool
  | .imm _ => true
  | .reg rm => decide (rm ≠ 15)

/-- The three loads of A-HW. -/
inductive HalfLoad
  | ldrh | ldrsb | ldrsh
  deriving DecidableEq, Repr

/-- What each loads (R304, R305, R306). -/
def HalfLoad.kind : HalfLoad → LoadKind
  | .ldrh => .halfU
  | .ldrsb => .byteS
  | .ldrsh => .halfS

/-- LDRH, LDRSB and LDRSH in both forms (R304-R306). -/
def halfLoad (h : HalfLoad) (cond : Cond) (pre up wb : Bool) (rn rd : Reg) (off : HalfOffset) : Instr :=
  match h, off with
  | .ldrh, .imm o => .ldrhImm cond pre up wb rn rd o
  | .ldrh, .reg rm => .ldrhReg cond pre up wb rn rd rm
  | .ldrsb, .imm o => .ldrsbImm cond pre up wb rn rd o
  | .ldrsb, .reg rm => .ldrsbReg cond pre up wb rn rd rm
  | .ldrsh, .imm o => .ldrshImm cond pre up wb rn rd o
  | .ldrsh, .reg rm => .ldrshReg cond pre up wb rn rd rm

/-- STRH in both forms (R303). -/
def halfStore (cond : Cond) (pre up wb : Bool) (rn rd : Reg) (off : HalfOffset) : Instr :=
  match off with
  | .imm o => .strhImm cond pre up wb rn rd o
  | .reg rm => .strhReg cond pre up wb rn rd rm

/-- The operands rule R302 permits. -/
def halfPermitted (pre wb : Bool) (rn rd : Reg) (off : HalfOffset) : Bool :=
  (pre || !wb) && decide (rd ≠ 15) && off.notPc && ((pre && !wb) || (decide (rn ≠ 15) && decide (rn ≠ rd)))

/-- `base ± offset` (R290). -/
def offsetAddress (up : Bool) (base off : Word) : Word := if up then base + off else base - off

/-- The address a transfer reaches (R290). -/
def transferAddress (pre up : Bool) (base off : Word) : Word := if pre then offsetAddress up base off else base

/-- A load of `k` from `addr` into Rd, with the base written back to `final` where `wb` holds; R15 as Rd is a branch
(R294). -/
structure LoadEffect (k : LoadKind) (addr final : Word) (wb : Bool) (rn rd : Reg) (s t : State) : Prop where
  data : t.slot (regSlot s.bank rd) = s.load k addr
  base : wb = true → t.reg rn = final
  frame : Frame (regSlot s.bank rd :: if wb then [regSlot s.bank rn] else []) s t
  pending : t.branchPending = (s.branchPending || decide (rd = 15))
  draws : t.draws = s.draws
  memory : SameMemory s t
  port : t.port = .get k.width addr :: s.port

/-- A store of the low bytes of `v` at `addr` (R84), with the base written back to `final` where `wb` holds. -/
structure StoreEffect (k : Width) (addr v final : Word) (wb : Bool) (rn : Reg) (s t : State) : Prop where
  data : s.mem.wf = true → ∀ i, i < k.bytes → t.mem.byteAt ((k.alignDown addr).toNat + i) = byteOf v i
  others : SameMemoryBut k addr s t
  base : wb = true → t.reg rn = final
  frame : Frame (if wb then [regSlot s.bank rn] else []) s t
  pending : t.branchPending = s.branchPending
  draws : t.draws = s.draws
  port : t.port = .set k addr (k.lowBits v) :: s.port

/-! ### Block transfers -/

/-- How many registers of the list have a lower number: the place of a register in the transfer (R310). -/
def rank (rlist : BitVec 16) (r : Reg) : Nat := ((regsA rlist).filter fun q => decide (q < r)).length

/-- The address of a register's word in a transfer that begins at `start` (R310). -/
def wordAddress (start : Word) (rlist : BitVec 16) (r : Reg) : Word := start + spanOf (rank rlist r)

/-- The word a block load that begins at `start` reads for a register: its place in the list is the place of its port call
(R92, R310). -/
def wordRead (s : State) (start : Word) (rlist : BitVec 16) (r : Reg) : Word :=
  s.answer (rank rlist r) .word (wordAddress start rlist r)

/-- The register is in the list. -/
def inList (rlist : BitVec 16) (r : Reg) : Bool := bit rlist r.val

/-- The list of PUSH or POP: R0-R7 and, where `extra` holds, the register `r` (R441, R442). -/
def stackList (rlist : BitVec 8) (extra : Bool) (r : Nat) : BitVec 16 :=
  rlist.setWidth 16 ||| if extra then BitVec.twoPow 16 r else 0#16

/-- The port calls of a block load, newest first: one word for each register, ascending (R92, R310). -/
def readCalls (start : Word) (rlist : BitVec 16) : List PortCall :=
  ((regsA rlist).map fun r => PortCall.get .word (wordAddress start rlist r)).reverse

/-- The port calls of a block store, newest first. -/
def writeCalls (start : Word) (rlist : BitVec 16) (data : Reg → Word) : List PortCall :=
  ((regsA rlist).map fun r => PortCall.set .word (wordAddress start rlist r) (data r)).reverse

/-- The words of a block store are in memory and every byte outside them is as before (R84, R310). -/
structure BlockStored (start : Word) (rlist : BitVec 16) (data : Reg → Word) (s t : State) : Prop where
  words : s.mem.wf = true → ∀ r, inList rlist r = true → t.mem.read .word (wordAddress start rlist r) = data r
  others : ∀ a : Nat,
    (∀ r, inList rlist r = true → a < (Width.word.alignDown (wordAddress start rlist r)).toNat ∨
      (Width.word.alignDown (wordAddress start rlist r)).toNat + 4 ≤ a) → t.mem.byteAt a = s.mem.byteAt a
  port : t.port = writeCalls start rlist data ++ s.port

/-! ### Exceptions -/

/-- What `EnterException(mode, vector, link)` does (R485). -/
structure Entered (m : Mode) (vector link : Word) (s t : State) : Prop where
  saved : ∀ k, m.spsrSlot = some k → t.slot k = s.cpsr
  link : t.slot (regSlot m 14) = link
  mode : t.modeBits = m.bits
  setA : t.tbit = false
  masked : t.ibit = true
  kept : ∀ k, k < 32 → k ∉ [0, 1, 2, 3, 4, 5, 7] → bit t.cpsr k = bit s.cpsr k
  pc : t.slot 15 = vector
  slots : ∀ k : Fin 37, k ≠ 15 → k ≠ 16 → k ≠ regSlot m 14 → m.spsrSlot ≠ some k → t.slot k = s.slot k
  pending : t.branchPending = true
  outside : SameOutside s t
  draws : t.draws = s.draws
  access : NoAccess s t

/-- The instructions whose own effect is to take an exception: SWI and SWI (B) (R343, R461), UND and UND (B) (R347,
R470), and the coprocessor words (R348). -/
def isTrap : Instr → Bool
  | .swi _ _ | .und _ _ _ | .ldc _ _ _ _ _ _ _ _ _ | .stc _ _ _ _ _ _ _ _ _ | .cdp _ _ _ _ _ _ _
  | .mcr _ _ _ _ _ _ _ | .mrc _ _ _ _ _ _ _ | .bSwi _ | .bUnd _ => true
  | _ => false

/-- MSR with R = 1 (R242). -/
def isMsrSpsr : Instr → Bool
  | .msrReg _ .spsr _ _ | .msrImm _ .spsr _ _ _ => true
  | _ => false

/-! ### Conditions -/

/-- The condition an instruction tests (R182): every Set-A instruction but the Unsupported words, and F16. -/
def conditionOf : Instr → Option Cond
  | .andImm cond _ _ _ _ _ => some cond
  | .andRegImm cond _ _ _ _ _ _ => some cond
  | .andRegReg cond _ _ _ _ _ _ => some cond
  | .eorImm cond _ _ _ _ _ => some cond
  | .eorRegImm cond _ _ _ _ _ _ => some cond
  | .eorRegReg cond _ _ _ _ _ _ => some cond
  | .subImm cond _ _ _ _ _ => some cond
  | .subRegImm cond _ _ _ _ _ _ => some cond
  | .subRegReg cond _ _ _ _ _ _ => some cond
  | .rsbImm cond _ _ _ _ _ => some cond
  | .rsbRegImm cond _ _ _ _ _ _ => some cond
  | .rsbRegReg cond _ _ _ _ _ _ => some cond
  | .addImm cond _ _ _ _ _ => some cond
  | .addRegImm cond _ _ _ _ _ _ => some cond
  | .addRegReg cond _ _ _ _ _ _ => some cond
  | .adcImm cond _ _ _ _ _ => some cond
  | .adcRegImm cond _ _ _ _ _ _ => some cond
  | .adcRegReg cond _ _ _ _ _ _ => some cond
  | .sbcImm cond _ _ _ _ _ => some cond
  | .sbcRegImm cond _ _ _ _ _ _ => some cond
  | .sbcRegReg cond _ _ _ _ _ _ => some cond
  | .rscImm cond _ _ _ _ _ => some cond
  | .rscRegImm cond _ _ _ _ _ _ => some cond
  | .rscRegReg cond _ _ _ _ _ _ => some cond
  | .tstImm cond _ _ _ => some cond
  | .tstRegImm cond _ _ _ _ => some cond
  | .tstRegReg cond _ _ _ _ => some cond
  | .teqImm cond _ _ _ => some cond
  | .teqRegImm cond _ _ _ _ => some cond
  | .teqRegReg cond _ _ _ _ => some cond
  | .cmpImm cond _ _ _ => some cond
  | .cmpRegImm cond _ _ _ _ => some cond
  | .cmpRegReg cond _ _ _ _ => some cond
  | .cmnImm cond _ _ _ => some cond
  | .cmnRegImm cond _ _ _ _ => some cond
  | .cmnRegReg cond _ _ _ _ => some cond
  | .orrImm cond _ _ _ _ _ => some cond
  | .orrRegImm cond _ _ _ _ _ _ => some cond
  | .orrRegReg cond _ _ _ _ _ _ => some cond
  | .movImm cond _ _ _ _ => some cond
  | .movRegImm cond _ _ _ _ _ => some cond
  | .movRegReg cond _ _ _ _ _ => some cond
  | .bicImm cond _ _ _ _ _ => some cond
  | .bicRegImm cond _ _ _ _ _ _ => some cond
  | .bicRegReg cond _ _ _ _ _ _ => some cond
  | .mvnImm cond _ _ _ _ => some cond
  | .mvnRegImm cond _ _ _ _ _ => some cond
  | .mvnRegReg cond _ _ _ _ _ => some cond
  | .mrs cond _ _ => some cond
  | .msrReg cond _ _ _ => some cond
  | .msrImm cond _ _ _ _ => some cond
  | .mul cond _ _ _ _ => some cond
  | .mla cond _ _ _ _ _ => some cond
  | .umull cond _ _ _ _ _ => some cond
  | .umlal cond _ _ _ _ _ => some cond
  | .smull cond _ _ _ _ _ => some cond
  | .smlal cond _ _ _ _ _ => some cond
  | .ldrImmPre cond _ _ _ _ _ => some cond
  | .ldrImmPost cond _ _ _ _ => some cond
  | .ldrRegPre cond _ _ _ _ _ _ _ => some cond
  | .ldrRegPost cond _ _ _ _ _ _ => some cond
  | .strImmPre cond _ _ _ _ _ => some cond
  | .strImmPost cond _ _ _ _ => some cond
  | .strRegPre cond _ _ _ _ _ _ _ => some cond
  | .strRegPost cond _ _ _ _ _ _ => some cond
  | .ldrbImmPre cond _ _ _ _ _ => some cond
  | .ldrbImmPost cond _ _ _ _ => some cond
  | .ldrbRegPre cond _ _ _ _ _ _ _ => some cond
  | .ldrbRegPost cond _ _ _ _ _ _ => some cond
  | .strbImmPre cond _ _ _ _ _ => some cond
  | .strbImmPost cond _ _ _ _ => some cond
  | .strbRegPre cond _ _ _ _ _ _ _ => some cond
  | .strbRegPost cond _ _ _ _ _ _ => some cond
  | .ldrtImm cond _ _ _ _ => some cond
  | .ldrtReg cond _ _ _ _ _ _ => some cond
  | .strtImm cond _ _ _ _ => some cond
  | .strtReg cond _ _ _ _ _ _ => some cond
  | .ldrbtImm cond _ _ _ _ => some cond
  | .ldrbtReg cond _ _ _ _ _ _ => some cond
  | .strbtImm cond _ _ _ _ => some cond
  | .strbtReg cond _ _ _ _ _ _ => some cond
  | .strhImm cond _ _ _ _ _ _ => some cond
  | .strhReg cond _ _ _ _ _ _ => some cond
  | .ldrhImm cond _ _ _ _ _ _ => some cond
  | .ldrhReg cond _ _ _ _ _ _ => some cond
  | .ldrsbImm cond _ _ _ _ _ _ => some cond
  | .ldrsbReg cond _ _ _ _ _ _ => some cond
  | .ldrshImm cond _ _ _ _ _ _ => some cond
  | .ldrshReg cond _ _ _ _ _ _ => some cond
  | .ldm cond _ _ _ _ _ _ => some cond
  | .stm cond _ _ _ _ _ _ => some cond
  | .swp cond _ _ _ => some cond
  | .swpb cond _ _ _ => some cond
  | .b cond _ => some cond
  | .bl cond _ => some cond
  | .bx cond _ => some cond
  | .swi cond _ => some cond
  | .und cond _ _ => some cond
  | .ldc cond _ _ _ _ _ _ _ _ => some cond
  | .stc cond _ _ _ _ _ _ _ _ => some cond
  | .cdp cond _ _ _ _ _ _ => some cond
  | .mcr cond _ _ _ _ _ _ => some cond
  | .mrc cond _ _ _ _ _ _ => some cond
  | .unsupportedMultiply _ => none
  | .unsupportedSwap _ => none
  | .unsupportedHalfwordStore _ => none
  | .unsupportedMisc _ => none
  | .unsupportedImmMisc _ => none
  | .bLslImm _ _ _ => none
  | .bLsrImm _ _ _ => none
  | .bAsrImm _ _ _ => none
  | .bAddReg _ _ _ => none
  | .bSubReg _ _ _ => none
  | .bAddImm3 _ _ _ => none
  | .bSubImm3 _ _ _ => none
  | .bMovImm8 _ _ => none
  | .bCmpImm8 _ _ => none
  | .bAddImm8 _ _ => none
  | .bSubImm8 _ _ => none
  | .bAndAlu _ _ => none
  | .bEorAlu _ _ => none
  | .bLslReg _ _ => none
  | .bLsrReg _ _ => none
  | .bAsrReg _ _ => none
  | .bAdcAlu _ _ => none
  | .bSbcAlu _ _ => none
  | .bRorReg _ _ => none
  | .bTstAlu _ _ => none
  | .bNegAlu _ _ => none
  | .bCmpAlu _ _ => none
  | .bCmnAlu _ _ => none
  | .bOrrAlu _ _ => none
  | .bMulAlu _ _ => none
  | .bBicAlu _ _ => none
  | .bMvnAlu _ _ => none
  | .bAddHi _ _ => none
  | .bCmpHi _ _ => none
  | .bMovHi _ _ => none
  | .bBxHi _ _ => none
  | .bLdrPc _ _ => none
  | .bStrReg _ _ _ => none
  | .bStrbReg _ _ _ => none
  | .bLdrReg _ _ _ => none
  | .bLdrbReg _ _ _ => none
  | .bStrhReg _ _ _ => none
  | .bLdsbReg _ _ _ => none
  | .bLdrhReg _ _ _ => none
  | .bLdshReg _ _ _ => none
  | .bStrImm5 _ _ _ => none
  | .bLdrImm5 _ _ _ => none
  | .bStrbImm5 _ _ _ => none
  | .bLdrbImm5 _ _ _ => none
  | .bStrhImm5 _ _ _ => none
  | .bLdrhImm5 _ _ _ => none
  | .bStrSp _ _ => none
  | .bLdrSp _ _ => none
  | .bAddPc _ _ => none
  | .bAddSp _ _ => none
  | .bAddSpImm _ => none
  | .bSubSpImm _ => none
  | .bPush _ _ => none
  | .bPop _ _ => none
  | .bStmia _ _ => none
  | .bLdmia _ _ => none
  | .bBeq _ => some .eq
  | .bBne _ => some .ne
  | .bBcs _ => some .cs
  | .bBcc _ => some .cc
  | .bBmi _ => some .mi
  | .bBpl _ => some .pl
  | .bBvs _ => some .vs
  | .bBvc _ => some .vc
  | .bBhi _ => some .hi
  | .bBls _ => some .ls
  | .bBge _ => some .ge
  | .bBlt _ => some .lt
  | .bBgt _ => some .gt
  | .bBle _ => some .le
  | .bSwi _ => none
  | .bB _ => none
  | .bBlPrefix _ => none
  | .bBlSuffix _ => none
  | .bUnd _ => none

end Sys2Proof.Safety
end

