-- ==== Sys2Proof/Certificates/Slice0/Obligations.lean ====
section
/-! DEFINITION. The statements for the provers.  Each says in its docstring which rules of spec/ it formalises. -/

open Sys2Proof Sys2Proof.Machine Sys2Proof.Safety

/-! ## Reset, registers and memory -/

/-- R530, R55: `start()` on a stopped core, for every value of the OPEN parameters: System mode, Set-A, no flag, the
three stack pointers, every other register 0, the pipeline filled at the aligned entry address by two fetches, the stop
request cleared, the host's flags, the memory and its regions as they were.  In any other driver state the call has no
move. -/
def Obligations.StartResets : Prop :=
  ∀ (p : Config.StartParams) (s : State), (s.driver ≠ .stopped → HostPort.start p s = none) ∧
    (s.driver = .stopped →
    ∃ t, HostPort.start p s = some t ∧ t.cpsr = 0x0000001F#32 ∧
      t.slot 25 = p.spSvc ∧ t.slot 31 = p.spIrq ∧ t.slot 13 = p.spUsr ∧
      (∀ k : Fin 37, k ∉ [13, 15, 16, 25, 31] → t.slot k = 0#32) ∧
      t.slot 15 = (p.entry &&& 0xFFFFFFFC#32) + 8#32 ∧
      t.decoded = s.answer 0 .word (p.entry &&& 0xFFFFFFFC#32) ∧
      t.prefetched = s.answer 1 .word ((p.entry &&& 0xFFFFFFFC#32) + 4#32) ∧
      t.port = .get .word ((p.entry &&& 0xFFFFFFFC#32) + 4#32) :: .get .word (p.entry &&& 0xFFFFFFFC#32) :: s.port ∧
      t.branchPending = false ∧ t.stopRequest = false ∧ t.driver = .running ∧ t.mem = s.mem ∧
      t.regions = s.regions ∧ t.irqLine = s.irqLine ∧ t.haltFlag = s.haltFlag ∧ t.haltTask = s.haltTask)

/-- R33: the banking map.  The slot of every logical index in every mode; an access goes through the map with the mode
CPSR.M then holds; and so a register written in one mode and read in another shows the write exactly where the two modes
share the slot: R0-R7 and R15 always, R8-R12 unless exactly one of the modes is FIQ, R13 and R14 only in the same mode or
between User and System. -/
def Obligations.BankingMap : Prop :=
  (∀ i : Fin 18,
    (∀ m ∈ [Mode.user, .system], (physicalSlot m i).map Fin.val = if i = 17 then none else some i.val) ∧
    (physicalSlot .fiq i).map Fin.val = some (if 8 ≤ i ∧ i ≤ 14 then i.val + 9 else if i = 17 then 24 else i.val) ∧
    ∀ p ∈ [(Mode.supervisor, 25), (.abort, 28), (.irq, 31), (.undefined, 34)],
      (physicalSlot p.1 i).map Fin.val =
        some (if i = 13 then p.2 else if i = 14 then p.2 + 1 else if i = 17 then p.2 + 2 else i.val)) ∧
  (∀ (s : State) (m : Mode) (r : Reg), s.modeBits = m.bits →
    some (s.reg r) = (physicalSlot m (Fin.ofNat 18 r.val)).map s.slot ∧ s.spsr = (physicalSlot m 17).map s.slot) ∧
  ∀ (s : State) (m m' : Mode) (r q : Reg) (v : Word),
    (((s.setMode m).setReg r v).setMode m').reg q =
      if q = r ∧ (r < 8 ∨ r = 15 ∨ (r < 13 ∧ (m = .fiq ↔ m' = .fiq)) ∨ m = m' ∨
          (m ∈ [.user, .system] ∧ m' ∈ [.user, .system]))
      then v else (s.setMode m').reg q

/-- R83, R84: the bytes of an access.  A write puts the low bytes of the value, little-endian, at the aligned-down
address and leaves every other byte; a read gives the bytes there, little-endian and zero-extended. -/
def Obligations.PortAccess : Prop :=
  ∀ (m : Memory) (k : Width) (a v : Word), m.wf = true →
    (∀ i, i < k.bytes → (m.write k a v).byteAt ((k.alignDown a).toNat + i) = byteOf v i) ∧
    (∀ b : Nat, b < (k.alignDown a).toNat ∨ (k.alignDown a).toNat + k.bytes ≤ b →
      (m.write k a v).byteAt b = m.byteAt b) ∧
    (∀ i, i < 4 → byteOf (m.read k a) i = if i < k.bytes then m.byteAt ((k.alignDown a).toNat + i) else 0#8) ∧
    (k.alignDown a).toNat = a.toNat - a.toNat % k.bytes

/-- R98 (a), R85: a read gives what the last store to the same place left, whatever lies between that does not touch it,
unless the collaborator answers otherwise.  Each access is one call at the port; in a region that the collaborator does
not keep as plain memory (the model's own field, assumption log 5) the oracle of R85 answers the read: the low bytes of a
free value of that call (assumption log 24). -/
def Obligations.LoadAfterStore : Prop :=
  (∀ (m : Memory) (k l : Width) (a b v w : Word), m.wf = true →
    ((k.alignDown a).toNat + k.bytes ≤ (l.alignDown b).toNat ∨
      (l.alignDown b).toNat + l.bytes ≤ (k.alignDown a).toNat) →
    ((m.write k a v).write l b w).read k a = k.lowBits v) ∧
  ∀ (s : State) (k : Width) (a v : Word) (lo : Nat), lo = (k.alignDown a).toNat →
    (s.noteRead k a).port = .get k a :: s.port ∧ (s.noteRead k a).mem = s.mem ∧
    (s.store k a v).port = .set k a (k.lowBits v) :: s.port ∧ (s.store k a v).mem = s.mem.write k a v ∧
    ((∀ g ∈ s.regions, g.base + g.size ≤ lo ∨ lo + k.bytes ≤ g.base) →
      (∀ i, i < 4 → byteOf (s.peek k a) i = if i < k.bytes then s.mem.byteAt (lo + i) else 0#8) ∧
      (s.mem.wf = true → (s.store k a v).peek k a = k.lowBits v)) ∧
    (∀ g ∈ s.regions, g.base < lo + k.bytes → lo < g.base + g.size → ∀ i, i < 4 →
      (byteOf (s.peek k a) i = if i < k.bytes then byteOf (Config.portAnswer s.port.length) i else 0#8) ∧
      (byteOf ((s.noteRead k a).peek k a) i =
        if i < k.bytes then byteOf (Config.portAnswer (s.port.length + 1)) i else 0#8))

/-- R81: the canonical form is canonical: two memories in it that read alike everywhere are the same list. -/
def Obligations.MemoryExtensional : Prop :=
  ∀ m n : Memory, m.wf = true → n.wf = true → (∀ a : Nat, m.byteAt a = n.byteAt a) → m = n

/-- R87: the load helpers byte by byte, whatever the port answers (LoadAfterStore says what that is).  A misaligned word
load rotates the aligned word, so that the addressed byte comes lowest; an unsigned halfword load at an odd address leaves
the addressed byte lowest and the byte below it highest; a signed halfword load at an odd address gives the sign-extended
addressed byte. -/
def Obligations.LoadHelpers : Prop :=
  ∀ (s : State) (a w h b : Word), w = s.peek .word a → h = s.peek .half a → b = s.peek .byte a →
    (∀ i, i < 4 → byteOf (s.load .word a) i = byteOf w ((a.toNat % 4 + i) % 4)) ∧
    (s.load .halfU a = if a.toNat % 2 = 0
      then (byteOf h 1 ++ byteOf h 0 : BitVec 16).setWidth 32
      else (byteOf h 0 ++ 0#16 ++ byteOf h 1 : BitVec 32)) ∧
    (s.load .halfS a = if a.toNat % 2 = 0
      then (byteOf h 1 ++ byteOf h 0 : BitVec 16).signExtend 32
      else (byteOf h 1).signExtend 32) ∧
    s.load .byteU a = (byteOf b 0).setWidth 32 ∧
    s.load .byteS a = (byteOf b 0).signExtend 32

/-! ## Flags, conditions and the shifter -/

/-- R187: the four flag helpers give the flags of AddWithCarry, with any carry-in. -/
def Obligations.FlagHelpersAgree : Prop :=
  ∀ (a b : Word) (cin : Bool),
    carriedAdd a b (addWithCarry a b cin).result = (addWithCarry a b cin).carry ∧
    overflowedAdd a b (addWithCarry a b cin).result = (addWithCarry a b cin).overflow ∧
    (addWithCarry a (~~~b) cin).result = a - b - (if cin then 0#32 else 1#32) ∧
    borrowedSub a b (a - b - (if cin then 0#32 else 1#32)) = !(addWithCarry a (~~~b) cin).carry ∧
    overflowedSub a b (a - b - (if cin then 0#32 else 1#32)) = (addWithCarry a (~~~b) cin).overflow

/-- R180 with R185 and R186: the sixteen predicates on the flags, and what they mean after a comparison of `a` with `b`
(the flags of AddWithCarry(a, NOT b, 1)): equality, the unsigned order, the sign of the difference, whether the exact
signed difference fits 32 bits, and the signed order. -/
def Obligations.ConditionsAfterCompare : Prop :=
  ∀ (s : State) (a b : Word),
    let t := s.setNZCV (addWithCarry a (~~~b) true)
    (t.passed .eq = true ↔ a = b) ∧ (t.passed .ne = true ↔ a ≠ b) ∧
    (t.passed .cs = true ↔ b.toNat ≤ a.toNat) ∧ (t.passed .cc = true ↔ a.toNat < b.toNat) ∧
    (t.passed .hi = true ↔ b.toNat < a.toNat) ∧ (t.passed .ls = true ↔ a.toNat ≤ b.toNat) ∧
    (t.passed .ge = true ↔ b.toInt ≤ a.toInt) ∧ (t.passed .lt = true ↔ a.toInt < b.toInt) ∧
    (t.passed .gt = true ↔ b.toInt < a.toInt) ∧ (t.passed .le = true ↔ a.toInt ≤ b.toInt) ∧
    (t.passed .mi = true ↔ bit (a - b) 31 = true) ∧ (t.passed .pl = true ↔ bit (a - b) 31 = false) ∧
    (t.passed .vs = true ↔ a.toInt - b.toInt < -2 ^ 31 ∨ 2 ^ 31 ≤ a.toInt - b.toInt) ∧
    (t.passed .vc = true ↔ -2 ^ 31 ≤ a.toInt - b.toInt ∧ a.toInt - b.toInt < 2 ^ 31) ∧
    t.passed .al = true ∧ t.passed .nv = false ∧
    ∀ (cond : Cond) (holds : Bool), (cond, holds) ∈ [
      (Cond.eq, s.flagZ), (.ne, !s.flagZ), (.cs, s.flagC), (.cc, !s.flagC), (.mi, s.flagN), (.pl, !s.flagN),
      (.vs, s.flagV), (.vc, !s.flagV), (.hi, s.flagC && !s.flagZ), (.ls, !s.flagC || s.flagZ),
      (.ge, decide (s.flagN = s.flagV)), (.lt, decide (s.flagN ≠ s.flagV)),
      (.gt, !s.flagZ && decide (s.flagN = s.flagV)), (.le, s.flagZ || decide (s.flagN ≠ s.flagV)),
      (.al, true), (.nv, false)] → s.passed cond = holds

/-- R190: the shifter bit by bit, for every amount.  An amount of 1 or more means the same on both paths: LSL and LSR
move bits out and zeros in, ASR copies bit 31, ROR turns modulo 32, and the carry is the last bit moved out.  An encoded
amount of 0 means "no shift" for LSL, 32 for LSR and ASR, and RRX for ROR; a register amount of 0 changes nothing. -/
def Obligations.ShifterBits : Prop :=
  ∀ (v : Word) (cin : Bool) (n : Nat),
    (∀ type : ShiftType, shift type 0 true v cin = ⟨v, cin⟩) ∧
    (0 < n → ∀ fromReg : Bool,
      (∀ k, k < 32 → bit (shift .lsl n fromReg v cin).value k = (decide (n ≤ k) && bit v (k - n))) ∧
      (shift .lsl n fromReg v cin).carry = (decide (n ≤ 32) && bit v (32 - n)) ∧
      (∀ k, k < 32 → bit (shift .lsr n fromReg v cin).value k = bit v (k + n)) ∧
      (shift .lsr n fromReg v cin).carry = bit v (n - 1) ∧
      (∀ k, k < 32 → bit (shift .asr n fromReg v cin).value k = bit v (min (k + n) 31)) ∧
      (shift .asr n fromReg v cin).carry = bit v (min (n - 1) 31) ∧
      (∀ k, k < 32 → bit (shift .ror n fromReg v cin).value k = bit v ((k + n) % 32)) ∧
      (shift .ror n fromReg v cin).carry = bit v ((n - 1) % 32)) ∧
    shift .lsl 0 false v cin = ⟨v, cin⟩ ∧
    shift .lsr 0 false v cin = shift .lsr 32 true v cin ∧
    shift .asr 0 false v cin = shift .asr 32 true v cin ∧
    (∀ k, k < 32 → bit (shift .ror 0 false v cin).value k = if k = 31 then cin else bit v (k + 1)) ∧
    (shift .ror 0 false v cin).carry = bit v 0

/-- R197: the rotated immediate bit by bit, and its carry-out. -/
def Obligations.RotatedImmediate : Prop :=
  ∀ (rotate : BitVec 4) (imm8 : BitVec 8) (cin : Bool),
    (∀ k, k < 32 → bit (operandImm rotate imm8 cin).value k = bit imm8 ((k + 2 * rotate.toNat) % 32)) ∧
    (operandImm rotate imm8 cin).carry =
      if rotate = 0#4 then cin else bit (operandImm rotate imm8 cin).value 31

/-- R181, R182: an instruction whose condition fails is a complete no-op: every Set-A instruction but the Unsupported
words, and the conditional branches of Set-B. -/
def Obligations.FailedCondition : Prop :=
  ∀ (i : Instr) (c : Cond) (s : State), conditionOf i = some c → s.passed c = false → exec i s = .next s

/-! ## Set-A data processing -/

/-- R220, R224-R239, immediate form: AND, EOR, SUB, RSB, ADD, ADC, SBC, RSC, TST, TEQ, CMP, CMN, ORR, MOV, BIC and MVN
(andImm, eorImm, subImm, rsbImm, addImm, adcImm, sbcImm, rscImm, tstImm, teqImm, cmpImm, cmnImm, orrImm, movImm, bicImm,
mvnImm) complete, for every destination but R15, with the result and the flags in plain numbers and nothing else
changed. -/
def Obligations.DpImmediate : Prop :=
  ∀ (op : DpOp) (cond : Cond) (sf : Bool) (rn rd : Reg) (rotate : BitVec 4) (imm8 : BitVec 8) (s : State),
    s.passed cond = true → (writesRd op = true → rd ≠ 15) →
    ∃ t, exec (Instr.dpImm op cond sf rn rd rotate imm8) s = .next t ∧
      DpEffect op (sf || !writesRd op) rd (firstOperand op rn s) (operandImm rotate imm8 s.flagC) s t

/-- The same for the register-shifted-by-immediate form (andRegImm, eorRegImm, subRegImm, rsbRegImm, addRegImm,
adcRegImm, sbcRegImm, rscRegImm, tstRegImm, teqRegImm, cmpRegImm, cmnRegImm, orrRegImm, movRegImm, bicRegImm,
mvnRegImm); R15 as Rn or Rm reads the address plus two instruction widths (R223). -/
def Obligations.DpImmediateShift : Prop :=
  ∀ (op : DpOp) (cond : Cond) (sf : Bool) (rn rd : Reg) (amount : BitVec 5) (sh : ShiftType) (rm : Reg) (s : State),
    s.passed cond = true → (writesRd op = true → rd ≠ 15) →
    ∃ t, exec (Instr.dpRegImm op cond sf rn rd amount sh rm) s = .next t ∧
      DpEffect op (sf || !writesRd op) rd (firstOperand op rn s)
        (shift sh amount.toNat false (s.reg rm) s.flagC) s t

/-- The same for the register-shifted-by-register form (andRegReg, eorRegReg, subRegReg, rsbRegReg, addRegReg,
adcRegReg, sbcRegReg, rscRegReg, tstRegReg, teqRegReg, cmpRegReg, cmnRegReg, orrRegReg, movRegReg, bicRegReg,
mvnRegReg): the amount is the bottom byte of Rs (R195), and no field the operation uses is R15 (R223). -/
def Obligations.DpRegisterShift : Prop :=
  ∀ (op : DpOp) (cond : Cond) (sf : Bool) (rn rd rs : Reg) (sh : ShiftType) (rm : Reg) (s : State),
    s.passed cond = true → (writesRd op = true → rd ≠ 15) → (usesRn op = true → rn ≠ 15) → rs ≠ 15 → rm ≠ 15 →
    ∃ t, exec (Instr.dpRegReg op cond sf rn rd rs sh rm) s = .next t ∧
      DpEffect op (sf || !writesRd op) rd (firstOperand op rn s)
        (shift sh ((s.reg rs).toNat % 256) true (s.reg rm) s.flagC) s t

/-- R222: the twelve operations that write Rd, with S = 0 and Rd = 15, in the immediate and the
register-shifted-by-immediate form: a branch to the result within the set; no flag and no other register changes. -/
def Obligations.DpBranches : Prop :=
  ∀ (op : DpOp) (cond : Cond) (rn : Reg) (i : Instr) (op2 : Shifted) (s : State),
    s.passed cond = true → writesRd op = true →
    ((∃ rotate imm8, i = Instr.dpImm op cond false rn 15 rotate imm8 ∧ op2 = operandImm rotate imm8 s.flagC) ∨
      (∃ amount sh rm, i = Instr.dpRegImm op cond false rn 15 amount sh rm ∧
        op2 = shift sh amount.toNat false (s.reg rm) s.flagC)) →
    ∃ t, exec i s = .next t ∧
      t.slot 15 = aluResult op (firstOperand op rn s) op2.value s.flagC ∧ t.branchPending = true ∧
      Frame [15] s t ∧ NoAccess s t ∧ t.draws = s.draws

/-- R221, R500: the same forms with S = 1: the return from an exception.  SPSR of the current mode goes to all of CPSR,
the pc goes to the result, nothing else changes.  Without an SPSR, or with an SPSR whose mode is none of the seven, it
stops. -/
def Obligations.ExceptionReturn : Prop :=
  ∀ (op : DpOp) (cond : Cond) (rn : Reg) (i : Instr) (op2 : Shifted) (s : State),
    s.passed cond = true → writesRd op = true →
    ((∃ rotate imm8, i = Instr.dpImm op cond true rn 15 rotate imm8 ∧ op2 = operandImm rotate imm8 s.flagC) ∨
      (∃ amount sh rm, i = Instr.dpRegImm op cond true rn 15 amount sh rm ∧
        op2 = shift sh amount.toNat false (s.reg rm) s.flagC)) →
    (s.spsr = none → exec i s = s.unpredictable .noSpsr) ∧
    (∀ v, s.spsr = some v → validMode v = false → exec i s = .fault (.invalidMode v)) ∧
    (∀ v, s.spsr = some v → validMode v = true →
      ∃ t, exec i s = .next t ∧ t.cpsr = v ∧
        t.slot 15 = aluResult op (firstOperand op rn s) op2.value s.flagC ∧ t.branchPending = true ∧
        Frame [15, 16] s t ∧ NoAccess s t ∧ t.draws = s.draws)

/-- R223, R198, R36: R15 as an operand.  It reads the address plus two instruction widths; in the
register-shifted-by-register form a field the operation uses that is R15 stops the core, and nothing else does. -/
def Obligations.OperandR15 : Prop :=
  ∀ (op : DpOp) (cond : Cond) (sf : Bool) (rn rd rs : Reg) (sh : ShiftType) (rm : Reg) (s : State),
    s.reg 15 = s.instrAddr + (if s.tbit then 4#32 else 8#32) ∧
    (s.passed cond = true →
      if (usesRn op = true ∧ rn = 15) ∨ (writesRd op = true ∧ rd = 15) ∨ rm = 15 ∨ rs = 15 then
        exec (Instr.dpRegReg op cond sf rn rd rs sh rm) s = s.unpredictable .registerShiftR15
      else ∃ t, exec (Instr.dpRegReg op cond sf rn rd rs sh rm) s = .next t)

/-! ## PSR transfer -/

/-- R240: MRS (mrs) copies all 32 bits of CPSR, or of the current mode's SPSR, into Rd and changes nothing else.  Rd = 15
stops, and so does a mode without an SPSR. -/
def Obligations.MrsReadsStatus : Prop :=
  ∀ (cond : Cond) (psr : Psr) (rd : Reg) (s : State), s.passed cond = true →
    exec (.mrs cond psr 15) s = s.unpredictable .mrsToR15 ∧
    (rd ≠ 15 → s.spsr = none → exec (.mrs cond .spsr rd) s = s.unpredictable .noSpsr) ∧
    (∀ v, rd ≠ 15 → (psr = .cpsr ∧ v = s.cpsr ∨ psr = .spsr ∧ s.spsr = some v) →
      ∃ t, exec (.mrs cond psr rd) s = .next t ∧ t.reg rd = v ∧ t.cpsr = s.cpsr ∧
        Frame [regSlot s.bank rd] s t ∧ NoAccess s t ∧ t.branchPending = s.branchPending ∧ t.draws = s.draws)

/-- R241, with R243 and R244: MSR to CPSR in the register form (msrReg) and the immediate form (msrImm).  A bit is
written where the mask selects its byte, and in User mode only in bits 31:24; every other bit, and everything else,
stays.  `new` is the CPSR the mask asks for: with another T, or with a mode that is none of the seven, the core stops. -/
def Obligations.MsrCpsr : Prop :=
  ∀ (cond : Cond) (mask rotate : BitVec 4) (imm8 : BitVec 8) (rm : Reg) (i : Instr) (val new : Word) (s : State),
    s.passed cond = true →
    (i = .msrReg cond .cpsr mask rm ∧ rm ≠ 15 ∧ val = s.reg rm ∨
      i = .msrImm cond .cpsr mask rotate imm8 ∧ val = rotatedImm rotate imm8) →
    (∀ k, k < 32 → bit new k =
      if bit mask (k / 8) = true ∧ (s.modeBits = Mode.user.bits → 24 ≤ k) then bit val k else bit s.cpsr k) →
    if bit new 5 ≠ s.tbit then exec i s = s.unpredictable .msrChangesT
    else if validMode new = false then exec i s = .fault (.invalidMode new)
    else ∃ t, exec i s = .next t ∧ t.cpsr = new ∧
      Frame [16] s t ∧ NoAccess s t ∧ t.branchPending = s.branchPending ∧ t.draws = s.draws

/-- R242, with R243 and R244: MSR to SPSR in both forms: in a mode that has one the selected bytes are written, whatever
value results, and nothing else changes; in User and System mode it stops.  Rm = 15 stops the register form, to CPSR
too. -/
def Obligations.MsrSpsr : Prop :=
  ∀ (cond : Cond) (psr : Psr) (mask rotate : BitVec 4) (imm8 : BitVec 8) (rm : Reg) (i : Instr) (val : Word) (s : State),
    s.passed cond = true →
    exec (.msrReg cond psr mask 15) s = s.unpredictable .msrFromR15 ∧
    ((i = .msrReg cond .spsr mask rm ∧ rm ≠ 15 ∧ val = s.reg rm ∨
        i = .msrImm cond .spsr mask rotate imm8 ∧ val = rotatedImm rotate imm8) →
      (s.spsr = none → exec i s = s.unpredictable .noSpsr) ∧
      ∀ k : Fin 37, s.bank.spsrSlot = some k →
        ∃ t, exec i s = .next t ∧
          (∀ j, j < 32 →
            bit (t.slot k) j = if bit mask (j / 8) = true then bit val j else bit (s.slot k) j) ∧
          Frame [k] s t ∧ NoAccess s t ∧ t.branchPending = s.branchPending ∧ t.draws = s.draws)

/-- R34: User and System mode have no SPSR.  Every instruction that would read or write one there stops: MRS and MSR with
R = 1, a data-processing instruction with S = 1 and Rd = 15, and LDM with S = 1 and R15 in the list. -/
def Obligations.NoSpsrStops : Prop :=
  ∀ (cond : Cond) (op : DpOp) (mask rotate : BitVec 4) (imm8 : BitVec 8) (amount : BitVec 5) (sh : ShiftType)
    (rd rm rn ra rb : Reg) (pre up wb : Bool) (rlist : BitVec 16) (i : Instr) (s : State),
    s.passed cond = true → s.modeBits ∈ [Mode.user.bits, Mode.system.bits] →
    rd ≠ 15 → rm ≠ 15 → rb ≠ 15 → writesRd op = true → inList rlist 15 = true →
    i ∈ [.mrs cond .spsr rd, .msrReg cond .spsr mask rm, .msrImm cond .spsr mask rotate imm8,
      Instr.dpImm op cond true rn 15 rotate imm8, Instr.dpRegImm op cond true rn 15 amount sh ra,
      .ldm cond pre up true wb rb rlist] →
    s.spsr = none ∧ ∃ r, exec i s = s.unpredictable r

/-! ## Multiplies -/

/-- R271, R272, R278, R395: MUL (mul), MLA (mla) and Set-B MUL (bMulAlu): the low 32 bits of the product, or of the
product plus Rn; with S = 1 (always in Set-B) N and Z from the result, C a free value, V unchanged.  Set-B MUL with
Rd = Rs stops (R161). -/
def Obligations.MultiplyWord : Prop :=
  ∀ (cond : Cond) (sf : Bool) (rd rn rs rm : Reg) (bd bs : LowReg) (s : State),
    (s.passed cond = true → rd ≠ 15 → rm ≠ 15 → rs ≠ 15 → rd ≠ rm →
      (∃ t, exec (.mul cond sf rd rs rm) s = .next t ∧ t.reg rd = s.reg rm * s.reg rs ∧
        Flags sf (bit (t.reg rd) 31) (decide (t.reg rd = 0#32)) (Config.drawBit s.draws) s.flagV s t ∧
        Frame [regSlot s.bank rd, 16] s t ∧ NoAccess s t ∧ t.branchPending = s.branchPending ∧
        t.draws = s.draws + sf.toNat) ∧
      (rn ≠ 15 → ∃ t, exec (.mla cond sf rd rn rs rm) s = .next t ∧
        t.reg rd = s.reg rm * s.reg rs + s.reg rn ∧
        Flags sf (bit (t.reg rd) 31) (decide (t.reg rd = 0#32)) (Config.drawBit s.draws) s.flagV s t ∧
        Frame [regSlot s.bank rd, 16] s t ∧ NoAccess s t ∧ t.branchPending = s.branchPending ∧
        t.draws = s.draws + sf.toNat)) ∧
    (bd ≠ bs → ∃ t, exec (.bMulAlu bs bd) s = .next t ∧ t.low bd = s.low bd * s.low bs ∧
      Flags true (bit (t.low bd) 31) (decide (t.low bd = 0#32)) (Config.drawBit s.draws) s.flagV s t ∧
      Frame [regSlot s.bank (Fin.ofNat 16 bd.val), 16] s t ∧ NoAccess s t ∧ t.branchPending = s.branchPending ∧
      t.draws = s.draws + 1) ∧
    exec (.bMulAlu bd bd) s = s.unpredictable .multiplyOperands

/-- R273-R278: UMULL, UMLAL, SMULL and SMLAL (umull, umlal, smull, smlal): RdHi : RdLo is the exact product of the
operands read as unsigned or as signed numbers, plus the old RdHi : RdLo in the accumulating forms, modulo 2^64; with
S = 1, N and Z from all 64 bits, C and V free values. -/
def Obligations.MultiplyLong : Prop :=
  ∀ (cond : Cond) (sf signed accumulate : Bool) (hi lo rs rm : Reg) (s : State),
    s.passed cond = true → hi ≠ 15 → lo ≠ 15 → rm ≠ 15 → rs ≠ 15 → hi ≠ lo → hi ≠ rm → lo ≠ rm →
    ∃ t, exec (match signed, accumulate with
        | false, false => .umull cond sf hi lo rs rm
        | false, true => .umlal cond sf hi lo rs rm
        | true, false => .smull cond sf hi lo rs rm
        | true, true => .smlal cond sf hi lo rs rm) s = .next t ∧
      ((t.reg hi ++ t.reg lo : BitVec 64).toNat : Int) =
        ((if signed then (s.reg rm).toInt * (s.reg rs).toInt else ((s.reg rm).toNat * (s.reg rs).toNat : Nat)) +
          (if accumulate then ((s.reg hi ++ s.reg lo : BitVec 64).toNat : Int) else 0)) % 2 ^ 64 ∧
      Flags sf (bit (t.reg hi) 31) (decide (t.reg hi = 0#32 ∧ t.reg lo = 0#32)) (Config.drawBit s.draws)
        (Config.drawBit (s.draws + 1)) s t ∧
      Frame [regSlot s.bank hi, regSlot s.bank lo, 16] s t ∧ NoAccess s t ∧ t.branchPending = s.branchPending ∧
      t.draws = s.draws + if sf then 2 else 0

/-- R270: the operand constraints of the multiply family; each violation stops. -/
def Obligations.MultiplyStops : Prop :=
  ∀ (cond : Cond) (sf : Bool) (rd rn hi lo rs rm : Reg) (s : State), s.passed cond = true →
    (rd = 15 ∨ rm = 15 ∨ rs = 15 ∨ rd = rm →
      exec (.mul cond sf rd rs rm) s = s.unpredictable .multiplyOperands) ∧
    (rd = 15 ∨ rm = 15 ∨ rs = 15 ∨ rn = 15 ∨ rd = rm →
      exec (.mla cond sf rd rn rs rm) s = s.unpredictable .multiplyOperands) ∧
    (hi = 15 ∨ lo = 15 ∨ rm = 15 ∨ rs = 15 ∨ hi = lo ∨ hi = rm ∨ lo = rm →
      exec (.umull cond sf hi lo rs rm) s = s.unpredictable .multiplyOperands ∧
      exec (.umlal cond sf hi lo rs rm) s = s.unpredictable .multiplyOperands ∧
      exec (.smull cond sf hi lo rs rm) s = s.unpredictable .multiplyOperands ∧
      exec (.smlal cond sf hi lo rs rm) s = s.unpredictable .multiplyOperands)

/-! ## Set-A transfers -/

/-- R290, R291, R294, R296, R298, R300: LDR, LDRB, LDRT and LDRBT (ldrImmPre, ldrRegPre, ldrImmPost, ldrRegPost,
ldrtImm, ldrtReg, ldrbImmPre, ldrbRegPre, ldrbImmPost, ldrbRegPost, ldrbtImm, ldrbtReg): one access at the address of
the form, the data in Rd, the base written back where the form says so; R15 as Rd is a branch. -/
def Obligations.SingleLoads : Prop :=
  ∀ (byte : Bool) (ix : Indexing) (cond : Cond) (up : Bool) (rn rd : Reg) (off : Offset) (s : State),
    s.passed cond = true → transferPermitted byte ix rn rd off = true →
    ∃ t, exec (load byte ix cond up rn rd off) s = .next t ∧
      LoadEffect (if byte then .byteU else .word) (transferAddress ix.isPre up (s.reg rn) (off.value s))
        (offsetAddress up (s.reg rn) (off.value s)) ix.writesBack rn rd s t

/-- R290, R291, R293, R295, R297, R299, R301: STR, STRB, STRT and STRBT (strImmPre, strRegPre, strImmPost, strRegPost,
strtImm, strtReg, strbImmPre, strbRegPre, strbImmPost, strbRegPost, strbtImm, strbtReg): one access, the base written
back where the form says so; a stored R15 is the instruction's address plus 12. -/
def Obligations.SingleStores : Prop :=
  ∀ (byte : Bool) (ix : Indexing) (cond : Cond) (up : Bool) (rn rd : Reg) (off : Offset) (s : State),
    s.passed cond = true → transferPermitted byte ix rn rd off = true →
    ∃ t, exec (store byte ix cond up rn rd off) s = .next t ∧
      StoreEffect (if byte then .byte else .word) (transferAddress ix.isPre up (s.reg rn) (off.value s))
        (if rd = 15 then s.instrAddr + 12#32 else s.reg rd)
        (offsetAddress up (s.reg rn) (off.value s)) ix.writesBack rn s t

/-- R302-R306: LDRH, LDRSB and LDRSH (ldrhImm, ldrhReg, ldrsbImm, ldrsbReg, ldrshImm, ldrshReg) and STRH (strhImm,
strhReg). -/
def Obligations.HalfTransfers : Prop :=
  ∀ (h : HalfLoad) (cond : Cond) (pre up wb : Bool) (rn rd : Reg) (off : HalfOffset) (s : State),
    s.passed cond = true → halfPermitted pre wb rn rd off = true →
    (∃ t, exec (halfLoad h cond pre up wb rn rd off) s = .next t ∧
      LoadEffect h.kind (transferAddress pre up (s.reg rn) (off.value s))
        (offsetAddress up (s.reg rn) (off.value s)) (!pre || wb) rn rd s t) ∧
    (∃ t, exec (halfStore cond pre up wb rn rd off) s = .next t ∧
      StoreEffect .half (transferAddress pre up (s.reg rn) (off.value s)) (s.reg rd)
        (offsetAddress up (s.reg rn) (off.value s)) (!pre || wb) rn s t)

/-- R292, R302: operands those rules do not permit stop the core, before any access. -/
def Obligations.TransferStops : Prop :=
  ∀ (byte : Bool) (ix : Indexing) (h : HalfLoad) (cond : Cond) (pre up wb : Bool) (rn rd : Reg) (off : Offset)
    (hoff : HalfOffset) (s : State), s.passed cond = true →
    (transferPermitted byte ix rn rd off = false →
      (∃ r, exec (load byte ix cond up rn rd off) s = s.unpredictable r) ∧
      (∃ r, exec (store byte ix cond up rn rd off) s = s.unpredictable r)) ∧
    (halfPermitted pre wb rn rd hoff = false →
      (∃ r, exec (halfLoad h cond pre up wb rn rd hoff) s = s.unpredictable r) ∧
      (∃ r, exec (halfStore cond pre up wb rn rd hoff) s = s.unpredictable r))

/-- R310, R311, R313: LDM (ldm) into the current bank.  Each register of the list gets its word, in ascending order from
the start address; the base gets the final value, or a free value when it is in the list with write-back (it is then
written last, in the bank the mode then has: DEDUCED, assumption log 13); with R15 in the list the pc goes there, and with
S = 1 CPSR first gets the SPSR (R500). -/
def Obligations.LdmLoadsRegisters : Prop :=
  ∀ (cond : Cond) (pre up sbit wb : Bool) (rn : Reg) (rlist : BitVec 16) (v start : Word) (drawn : Bool) (s : State),
    s.passed cond = true → rn ≠ 15 → rlist ≠ 0#16 →
    (sbit = false ∧ v = s.cpsr ∨ inList rlist 15 = true ∧ s.spsr = some v ∧ validMode v = true ∧ sbit = true) →
    start = blockStart pre up (s.reg rn) (regsA rlist).length → drawn = (wb && inList rlist rn) →
    ∃ t, exec (.ldm cond pre up sbit wb rn rlist) s = .next t ∧
      (∀ r, inList rlist r = true → ¬(drawn = true ∧ regSlot t.bank rn = regSlot s.bank r) →
        t.slot (regSlot s.bank r) = wordRead s start rlist r) ∧
      (wb = true → drawn = false →
        t.slot (regSlot s.bank rn) = blockFinal up (s.reg rn) (regsA rlist).length) ∧
      (drawn = true → t.slot (regSlot t.bank rn) = Config.drawWord s.draws) ∧
      t.cpsr = v ∧ t.branchPending = (s.branchPending || inList rlist 15) ∧
      Frame (16 :: (regsA rlist).map (regSlot s.bank) ++ (if wb then [regSlot s.bank rn] else []) ++
        (if drawn then [regSlot t.bank rn] else [])) s t ∧
      SameMemory s t ∧ t.port = readCalls start rlist ++ s.port ∧ t.draws = s.draws + drawn.toNat

/-- R311, R314: LDM with S = 1 and no R15 in the list, in a mode with an SPSR: the words go to the User bank, whatever
the mode; the base is the current bank's and is not written. -/
def Obligations.LdmUserBank : Prop :=
  ∀ (cond : Cond) (pre up : Bool) (rn : Reg) (rlist : BitVec 16) (start : Word) (s : State),
    s.passed cond = true → rn ≠ 15 → rlist ≠ 0#16 → inList rlist 15 = false → s.spsr ≠ none →
    start = blockStart pre up (s.reg rn) (regsA rlist).length →
    ∃ t, exec (.ldm cond pre up true false rn rlist) s = .next t ∧
      (∀ r, inList rlist r = true → t.slot (regSlot .user r) = wordRead s start rlist r) ∧
      Frame ((regsA rlist).map (regSlot .user)) s t ∧ t.branchPending = s.branchPending ∧
      SameMemory s t ∧ t.port = readCalls start rlist ++ s.port ∧ t.draws = s.draws

/-- R310, R312-R314: STM (stm).  The registers of the list (of the User bank with S = 1; R15 as the instruction's
address plus 12; the base as a free value when it is written back and not the lowest) go to ascending words from the
start address; nothing but those words and the base changes.  (With S = 1 and W = 1 the list holds R15: assumption log
23.) -/
def Obligations.StmStoresRegisters : Prop :=
  ∀ (cond : Cond) (pre up sbit wb : Bool) (rn : Reg) (rlist : BitVec 16) (start : Word) (s : State),
    s.passed cond = true → rn ≠ 15 → rlist ≠ 0#16 →
    (sbit = true → s.spsr ≠ none ∧ (wb = false ∨ inList rlist 15 = true)) →
    start = blockStart pre up (s.reg rn) (regsA rlist).length →
    ∃ t, exec (.stm cond pre up sbit wb rn rlist) s = .next t ∧
      BlockStored start rlist (fun r =>
        if wb = true ∧ r = rn ∧ 0 < rank rlist rn then Config.drawWord s.draws
        else if r = 15 then s.instrAddr + 12#32
        else if sbit then s.userReg r else s.reg r) s t ∧
      (wb = true → t.reg rn = blockFinal up (s.reg rn) (regsA rlist).length) ∧
      Frame (if wb then [regSlot s.bank rn] else []) s t ∧ t.branchPending = s.branchPending ∧
      t.draws = s.draws + (wb && inList rlist rn && decide (0 < rank rlist rn)).toNat

/-- R314: the restrictions of LDM and STM; each violation stops, before any access.  An SPSR with an invalid mode stops
the exception return of LDM (R221, R45). -/
def Obligations.BlockStops : Prop :=
  ∀ (cond : Cond) (pre up sbit wb : Bool) (rn : Reg) (rlist : BitVec 16) (s : State), s.passed cond = true →
    (rn = 15 ∨ rlist = 0#16 ∨ (sbit = true ∧ s.spsr = none) ∨
        (sbit = true ∧ inList rlist 15 = false ∧ wb = true) →
      (∃ r, exec (.ldm cond pre up sbit wb rn rlist) s = s.unpredictable r) ∧
      (∃ r, exec (.stm cond pre up sbit wb rn rlist) s = s.unpredictable r)) ∧
    (∀ v, rn ≠ 15 → inList rlist 15 = true → s.spsr = some v → validMode v = false →
      exec (.ldm cond pre up true wb rn rlist) s = .fault (.invalidMode v))

/-- R320, R321: SWP (swp) and SWPB (swpb) read, then write, then load Rd; the operand restrictions stop. -/
def Obligations.Swap : Prop :=
  ∀ (byte : Bool) (cond : Cond) (rn rd rm : Reg) (s : State), s.passed cond = true →
    (rd ≠ 15 → rm ≠ 15 → rn ≠ 15 → rn ≠ rd → rn ≠ rm →
      ∃ t, exec (if byte then .swpb cond rn rd rm else .swp cond rn rd rm) s = .next t ∧
        t.reg rd = s.load (if byte then .byteU else .word) (s.reg rn) ∧
        (s.mem.wf = true → ∀ i, i < (if byte then 1 else 4) →
          t.mem.byteAt ((Width.alignDown (if byte then .byte else .word) (s.reg rn)).toNat + i) =
            byteOf (s.reg rm) i) ∧
        SameMemoryBut (if byte then .byte else .word) (s.reg rn) s t ∧
        t.port = .set (if byte then .byte else .word) (s.reg rn)
            (Width.lowBits (if byte then .byte else .word) (s.reg rm)) ::
          .get (if byte then .byte else .word) (s.reg rn) :: s.port ∧
        Frame [regSlot s.bank rd] s t ∧ t.branchPending = s.branchPending ∧ t.draws = s.draws) ∧
    (rd = 15 ∨ rm = 15 ∨ rn = 15 ∨ rn = rd ∨ rn = rm →
      exec (if byte then .swpb cond rn rd rm else .swp cond rn rd rm) s = s.unpredictable .swapOperands)

/-! ## Branches, exceptions and stops -/

/-- R340, R341: B (b) and BL (bl): the target is the address plus 8 plus four times the signed offset; BL writes the
next address to R14 of the current mode. -/
def Obligations.BranchAndLink : Prop :=
  ∀ (cond : Cond) (offset24 : BitVec 24) (s : State), s.passed cond = true → s.tbit = false →
    (∃ t, exec (.b cond offset24) s = .next t ∧
      t.slot 15 = s.instrAddr + 8#32 + BitVec.ofInt 32 (4 * offset24.toInt) ∧ t.branchPending = true ∧
      Frame [15] s t ∧ NoAccess s t ∧ t.draws = s.draws) ∧
    (∃ t, exec (.bl cond offset24) s = .next t ∧
      t.slot 15 = s.instrAddr + 8#32 + BitVec.ofInt 32 (4 * offset24.toInt) ∧ t.branchPending = true ∧
      t.reg 14 = s.instrAddr + 4#32 ∧
      Frame [15, regSlot s.bank 14] s t ∧ NoAccess s t ∧ t.draws = s.draws)

/-- R342, R401: BX (bx) and BX (hi) (bBxHi with H1 = 0): bit 0 of the target becomes T, the pc goes to the target with
bit 0 cleared, nothing else changes; a target with bits 1:0 = 10 stops, and so does H1 = 1 (R161).  That H1 = 1 is the
reason reported when the target has bits 1:0 = 10 as well is the model's choice (assumption log 20). -/
def Obligations.BranchExchange : Prop :=
  ∀ (cond : Cond) (rm : Reg) (i : Instr) (s : State),
    (i = .bx cond rm ∧ s.passed cond = true ∨ i = .bBxHi false rm) →
    ((s.reg rm).toNat % 4 ≠ 2 →
      ∃ t, exec i s = .next t ∧ t.tbit = decide ((s.reg rm).toNat % 2 = 1) ∧
        (t.slot 15).toNat = (s.reg rm).toNat - (s.reg rm).toNat % 2 ∧ t.branchPending = true ∧
        (∀ k, k ≠ 5 → bit t.cpsr k = bit s.cpsr k) ∧
        Frame [15, 16] s t ∧ NoAccess s t ∧ t.draws = s.draws) ∧
    ((s.reg rm).toNat % 4 = 2 → exec i s = s.unpredictable .bxMisaligned) ∧
    exec (.bBxHi true rm) s = s.unpredictable .bxHighBit

/-- R485-R487, R343, R347, R348, R461, R470: SWI (swi), UND (und), the coprocessor words (ldc, stc, cdp, mcr, mrc), SWI
(B) (bSwi) and UND (B) (bUnd) take their exception, in every mode: the whole of `EnterException`. -/
def Obligations.Traps : Prop :=
  ∀ (cond : Cond) (comment : BitVec 24) (hi : BitVec 20) (lo : BitVec 4) (p u n w : Bool) (rn rd : Reg)
    (crd cp op1 crn crm : BitVec 4) (offset value8 : BitVec 8) (opc op2 : BitVec 3) (half : Half) (s : State),
    s.passed cond = true →
    (∃ t, exec (.swi cond comment) s = .next t ∧ Entered .supervisor 8#32 (s.instrAddr + 4#32) s t) ∧
    (∀ i, i ∈ [.und cond hi lo, .ldc cond p u n w rn crd cp offset, .stc cond p u n w rn crd cp offset,
        .cdp cond op1 crn crd cp op2 crm, .mcr cond opc crn rd cp op2 crm, .mrc cond opc crn rd cp op2 crm] →
      ∃ t, exec i s = .next t ∧ Entered .undefined 4#32 (s.instrAddr + 4#32) s t) ∧
    (∃ t, exec (.bSwi value8) s = .next t ∧ Entered .supervisor 8#32 (s.instrAddr + 2#32) s t) ∧
    (∃ t, exec (.bUnd half) s = .next t ∧ Entered .undefined 4#32 (s.instrAddr + 2#32) s t)

/-- R350, R137: a word of one of the five Unsupported classes (unsupportedMultiply, unsupportedSwap,
unsupportedHalfwordStore, unsupportedMisc, unsupportedImmMisc) stops the core with its address and the word, whatever its
condition field holds; no architectural state changes and the core is Faulted. -/
def Obligations.UnsupportedStops : Prop :=
  ∀ (w : Word) (s : State), s.tbit = false → s.decoded = w →
    (isReservedMultiply w || isReservedSwap w || isReservedHalfwordStore w || isReservedMisc w || isReservedImmMisc w)
      = true →
    execute s = .fault (.unsupported s.instrAddr w) ∧
    exec (.unsupportedMultiply w) s = .fault (.unsupported s.instrAddr w) ∧
    exec (.unsupportedSwap w) s = .fault (.unsupported s.instrAddr w) ∧
    exec (.unsupportedHalfwordStore w) s = .fault (.unsupported s.instrAddr w) ∧
    exec (.unsupportedMisc w) s = .fault (.unsupported s.instrAddr w) ∧
    exec (.unsupportedImmMisc w) s = .fault (.unsupported s.instrAddr w) ∧
    (Ready s → step s = .fault (.unsupported s.instrAddr w) ∧
      stateAtFault s = { s.traced with driver := .faulted (.unsupported s.instrAddr w) } ∧
      HostPort.isRunning (stateAtFault s) = false)

/-! ## Set-B -/

/-- R371-R373, R384-R386, R389: LSL, LSR and ASR by an immediate (bLslImm, bLsrImm, bAsrImm) and LSL, LSR, ASR and ROR by
a register's bottom byte (bLslReg, bLsrReg, bAsrReg, bRorReg): the shifter's result and carry, N and Z from the result,
V unchanged. -/
def Obligations.SetBShifts : Prop :=
  ∀ (i : Instr) (rs rd : LowReg) (offset5 : BitVec 5) (out : Shifted) (s : State),
    (i, out) ∈ [
      (Instr.bLslImm offset5 rs rd, shift .lsl offset5.toNat false (s.low rs) s.flagC),
      (.bLsrImm offset5 rs rd, shift .lsr offset5.toNat false (s.low rs) s.flagC),
      (.bAsrImm offset5 rs rd, shift .asr offset5.toNat false (s.low rs) s.flagC),
      (.bLslReg rs rd, shift .lsl ((s.low rs).toNat % 256) true (s.low rd) s.flagC),
      (.bLsrReg rs rd, shift .lsr ((s.low rs).toNat % 256) true (s.low rd) s.flagC),
      (.bAsrReg rs rd, shift .asr ((s.low rs).toNat % 256) true (s.low rd) s.flagC),
      (.bRorReg rs rd, shift .ror ((s.low rs).toNat % 256) true (s.low rd) s.flagC)] →
    ∃ t, exec i s = .next t ∧ t.low rd = out.value ∧
      Flags true (bit out.value 31) (decide (out.value = 0#32)) out.carry s.flagV s t ∧
      Frame [regSlot s.bank (Fin.ofNat 16 rd.val), 16] s t ∧ NoAccess s t ∧ t.branchPending = s.branchPending ∧
      t.draws = s.draws

/-- R370, R374-R383, R387, R388, R390-R394, R396, R397: the flag-setting operations of Set-B: ADD and SUB of registers
and of imm3 and imm8 (bAddReg, bSubReg, bAddImm3, bSubImm3, bAddImm8, bSubImm8), MOV imm8 (bMovImm8), AND, EOR, ADC, SBC,
NEG, ORR, BIC and MVN (bAndAlu, bEorAlu, bAdcAlu, bSbcAlu, bNegAlu, bOrrAlu, bBicAlu, bMvnAlu), and the comparisons CMP
imm8, TST, CMP and CMN (bCmpImm8, bTstAlu, bCmpAlu, bCmnAlu), which write only the flags.  Each is the Set-A operation on
its two operands; a logical one leaves C and V. -/
def Obligations.SetBDataProcessing : Prop :=
  ∀ (i : Instr) (op : DpOp) (a b : Word) (rn rs rd : LowReg) (imm3 : BitVec 3) (imm8 : BitVec 8) (s : State),
    (i, op, a, b) ∈ [
      (Instr.bAddReg rn rs rd, DpOp.add, s.low rs, s.low rn),
      (.bSubReg rn rs rd, .sub, s.low rs, s.low rn),
      (.bAddImm3 imm3 rs rd, .add, s.low rs, imm3.setWidth 32),
      (.bSubImm3 imm3 rs rd, .sub, s.low rs, imm3.setWidth 32),
      (.bAddImm8 rd imm8, .add, s.low rd, imm8.setWidth 32),
      (.bSubImm8 rd imm8, .sub, s.low rd, imm8.setWidth 32),
      (.bMovImm8 rd imm8, .mov, 0#32, imm8.setWidth 32),
      (.bAndAlu rs rd, .and, s.low rd, s.low rs),
      (.bEorAlu rs rd, .eor, s.low rd, s.low rs),
      (.bAdcAlu rs rd, .adc, s.low rd, s.low rs),
      (.bSbcAlu rs rd, .sbc, s.low rd, s.low rs),
      (.bNegAlu rs rd, .rsb, s.low rs, 0#32),
      (.bOrrAlu rs rd, .orr, s.low rd, s.low rs),
      (.bBicAlu rs rd, .bic, s.low rd, s.low rs),
      (.bMvnAlu rs rd, .mvn, 0#32, s.low rs),
      (.bCmpImm8 rd imm8, .cmp, s.low rd, imm8.setWidth 32),
      (.bTstAlu rs rd, .tst, s.low rd, s.low rs),
      (.bCmpAlu rs rd, .cmp, s.low rd, s.low rs),
      (.bCmnAlu rs rd, .cmn, s.low rd, s.low rs)] →
    ∃ t, exec i s = .next t ∧ DpEffect op true (Fin.ofNat 16 rd.val) a ⟨b, s.flagC⟩ s t

/-- R398-R400, R161: the hi-register ADD and MOV (bAddHi, bMovHi) write Hd, R15 being a branch within the set, and no
flag; CMP (bCmpHi) writes only the flags; two low registers stop each of the three. -/
def Obligations.HiRegisters : Prop :=
  ∀ (hd hs : Reg) (s : State),
    (8 ≤ hd ∨ 8 ≤ hs →
      (∃ t, exec (.bAddHi hd hs) s = .next t ∧ t.slot (regSlot s.bank hd) = s.reg hd + s.reg hs ∧
        Frame [regSlot s.bank hd] s t ∧ NoAccess s t ∧ t.branchPending = (s.branchPending || decide (hd = 15)) ∧
        t.draws = s.draws) ∧
      (∃ t, exec (.bMovHi hd hs) s = .next t ∧ t.slot (regSlot s.bank hd) = s.reg hs ∧
        Frame [regSlot s.bank hd] s t ∧ NoAccess s t ∧ t.branchPending = (s.branchPending || decide (hd = 15)) ∧
        t.draws = s.draws) ∧
      (∃ t, exec (.bCmpHi hd hs) s = .next t ∧ DpEffect .cmp true hd (s.reg hd) ⟨s.reg hs, s.flagC⟩ s t)) ∧
    (hd < 8 → hs < 8 → ∀ i, i ∈ [Instr.bAddHi hd hs, .bMovHi hd hs, .bCmpHi hd hs] →
      exec i s = s.unpredictable .hiOpLowRegisters)

/-- R420, R423, R424, R426-R428, R430, R432, R434, R436: the loads of Set-B (bLdrPc, bLdrReg, bLdrbReg, bLdsbReg,
bLdrhReg, bLdshReg, bLdrImm5, bLdrbImm5, bLdrhImm5, bLdrSp), each with its address; the PC-relative base is the address
plus 4, word-aligned. -/
def Obligations.SetBLoads : Prop :=
  ∀ (i : Instr) (k : LoadKind) (addr : Word) (ro rb rd : LowReg) (offset5 : BitVec 5) (word8 : BitVec 8) (s : State),
    s.tbit = true →
    (i, k, addr) ∈ [
      (Instr.bLdrPc rd word8, LoadKind.word,
        ((s.instrAddr + 4#32) &&& 0xFFFFFFFC#32) + BitVec.ofNat 32 (4 * word8.toNat)),
      (.bLdrReg ro rb rd, .word, s.low rb + s.low ro),
      (.bLdrbReg ro rb rd, .byteU, s.low rb + s.low ro),
      (.bLdsbReg ro rb rd, .byteS, s.low rb + s.low ro),
      (.bLdrhReg ro rb rd, .halfU, s.low rb + s.low ro),
      (.bLdshReg ro rb rd, .halfS, s.low rb + s.low ro),
      (.bLdrImm5 offset5 rb rd, .word, s.low rb + BitVec.ofNat 32 (4 * offset5.toNat)),
      (.bLdrbImm5 offset5 rb rd, .byteU, s.low rb + BitVec.ofNat 32 offset5.toNat),
      (.bLdrhImm5 offset5 rb rd, .halfU, s.low rb + BitVec.ofNat 32 (2 * offset5.toNat)),
      (.bLdrSp rd word8, .word, s.reg 13 + BitVec.ofNat 32 (4 * word8.toNat))] →
    ∃ t, exec i s = .next t ∧ LoadEffect k addr addr false 0 (Fin.ofNat 16 rd.val) s t

/-- R421, R422, R425, R429, R431, R433, R435: the stores of Set-B (bStrReg, bStrbReg, bStrhReg, bStrImm5, bStrbImm5,
bStrhImm5, bStrSp), each with its address and width. -/
def Obligations.SetBStores : Prop :=
  ∀ (i : Instr) (k : Width) (addr : Word) (ro rb rd : LowReg) (offset5 : BitVec 5) (word8 : BitVec 8) (s : State),
    (i, k, addr) ∈ [
      (Instr.bStrReg ro rb rd, Width.word, s.low rb + s.low ro),
      (.bStrbReg ro rb rd, .byte, s.low rb + s.low ro),
      (.bStrhReg ro rb rd, .half, s.low rb + s.low ro),
      (.bStrImm5 offset5 rb rd, .word, s.low rb + BitVec.ofNat 32 (4 * offset5.toNat)),
      (.bStrbImm5 offset5 rb rd, .byte, s.low rb + BitVec.ofNat 32 offset5.toNat),
      (.bStrhImm5 offset5 rb rd, .half, s.low rb + BitVec.ofNat 32 (2 * offset5.toNat)),
      (.bStrSp rd word8, .word, s.reg 13 + BitVec.ofNat 32 (4 * word8.toNat))] →
    ∃ t, exec i s = .next t ∧ StoreEffect k addr (s.low rd) addr false 0 s t

/-- R437-R440: the address arithmetic of Set-B: ADD (pc) and ADD (sp) write Rd (bAddPc, bAddSp), ADD and SUB (sp imm)
write R13 of the current mode (bAddSpImm, bSubSpImm); no flag changes. -/
def Obligations.AddressArithmetic : Prop :=
  ∀ (i : Instr) (r : Reg) (v : Word) (rd : LowReg) (word8 : BitVec 8) (sword7 : BitVec 7) (s : State),
    s.tbit = true →
    (i, r, v) ∈ [
      (Instr.bAddPc rd word8, Fin.ofNat 16 rd.val,
        ((s.instrAddr + 4#32) &&& 0xFFFFFFFC#32) + BitVec.ofNat 32 (4 * word8.toNat)),
      (.bAddSp rd word8, Fin.ofNat 16 rd.val, s.reg 13 + BitVec.ofNat 32 (4 * word8.toNat)),
      (.bAddSpImm sword7, 13, s.reg 13 + BitVec.ofNat 32 (4 * sword7.toNat)),
      (.bSubSpImm sword7, 13, s.reg 13 - BitVec.ofNat 32 (4 * sword7.toNat))] →
    ∃ t, exec i s = .next t ∧ t.reg r = v ∧ Frame [regSlot s.bank r] s t ∧ NoAccess s t ∧
      t.branchPending = s.branchPending ∧ t.draws = s.draws

/-- R441, R442: PUSH (bPush) stores R0-R7 of the list, and R14 with R = 1, below R13 in ascending order and lowers R13;
POP (bPop) loads them, and R15 with R = 1, and raises R13.  An empty list stops. -/
def Obligations.PushPop : Prop :=
  ∀ (r : Bool) (rlist : BitVec 8) (push pop : BitVec 16) (s : State),
    push = stackList rlist r 14 → pop = stackList rlist r 15 →
    (push ≠ 0#16 → ∃ t, exec (.bPush r rlist) s = .next t ∧
      BlockStored (s.reg 13 - spanOf (regsA push).length) push s.reg s t ∧
      t.reg 13 = s.reg 13 - spanOf (regsA push).length ∧
      Frame [regSlot s.bank 13] s t ∧ t.branchPending = s.branchPending ∧ t.draws = s.draws) ∧
    (pop ≠ 0#16 → ∃ t, exec (.bPop r rlist) s = .next t ∧
      (∀ q, inList pop q = true → t.slot (regSlot s.bank q) = wordRead s (s.reg 13) pop q) ∧
      t.reg 13 = s.reg 13 + spanOf (regsA pop).length ∧
      Frame (regSlot s.bank 13 :: (regsA pop).map (regSlot s.bank)) s t ∧
      t.branchPending = (s.branchPending || r) ∧ SameMemory s t ∧
      t.port = readCalls (s.reg 13) pop ++ s.port ∧ t.draws = s.draws) ∧
    exec (.bPush false 0#8) s = s.unpredictable .emptyList ∧ exec (.bPop false 0#8) s = s.unpredictable .emptyList

/-- R443, R444: STMIA (bStmia) and LDMIA (bLdmia).  The base in the list is stored as a free value unless it is the
lowest, and loaded as a free value; an empty list stops. -/
def Obligations.StmiaLdmia : Prop :=
  ∀ (rb : LowReg) (base : Reg) (rlist : BitVec 8) (list : BitVec 16) (s : State),
    base = Fin.ofNat 16 rb.val → list = rlist.setWidth 16 →
    (rlist ≠ 0#8 → ∃ t, exec (.bStmia rb rlist) s = .next t ∧
      BlockStored (s.reg base) list
        (fun r => if r = base ∧ 0 < rank list base then Config.drawWord s.draws else s.reg r) s t ∧
      t.reg base = s.reg base + spanOf (regsA list).length ∧
      Frame [regSlot s.bank base] s t ∧ t.branchPending = s.branchPending ∧
      t.draws = s.draws + (inList list base && decide (0 < rank list base)).toNat) ∧
    (rlist ≠ 0#8 → ∃ t, exec (.bLdmia rb rlist) s = .next t ∧
      (∀ r, inList list r = true → r ≠ base → t.reg r = wordRead s (s.reg base) list r) ∧
      t.reg base = (if inList list base then Config.drawWord s.draws
        else s.reg base + spanOf (regsA list).length) ∧
      Frame (regSlot s.bank base :: (regsA list).map (regSlot s.bank)) s t ∧ t.branchPending = s.branchPending ∧
      SameMemory s t ∧ t.port = readCalls (s.reg base) list ++ s.port ∧
      t.draws = s.draws + (inList list base).toNat) ∧
    exec (.bStmia rb 0#8) s = s.unpredictable .emptyList ∧ exec (.bLdmia rb 0#8) s = s.unpredictable .emptyList

/-- R460, R462: the conditional branches of Set-B (bBeq, bBne, bBcs, bBcc, bBmi, bBpl, bBvs, bBvc, bBhi, bBls, bBge,
bBlt, bBgt, bBle), when their condition passes, and B (bB): the target is the address plus 4 plus twice the signed
offset. -/
def Obligations.SetBBranches : Prop :=
  ∀ (i : Instr) (cond : Cond) (d : Int) (o : BitVec 8) (offset11 : BitVec 11) (s : State),
    s.tbit = true →
    ((i, cond) ∈ [(Instr.bBeq o, Cond.eq), (.bBne o, .ne), (.bBcs o, .cs), (.bBcc o, .cc), (.bBmi o, .mi),
        (.bBpl o, .pl), (.bBvs o, .vs), (.bBvc o, .vc), (.bBhi o, .hi), (.bBls o, .ls), (.bBge o, .ge), (.bBlt o, .lt),
        (.bBgt o, .gt), (.bBle o, .le)] ∧ s.passed cond = true ∧ d = 2 * o.toInt ∨
      i = .bB offset11 ∧ d = 2 * offset11.toInt) →
    ∃ t, exec i s = .next t ∧ t.slot 15 = s.instrAddr + 4#32 + BitVec.ofInt 32 d ∧ t.branchPending = true ∧
      Frame [15] s t ∧ NoAccess s t ∧ t.draws = s.draws

/-- R466, R467: the two halves of the long branch with link.  The prefix (bBlPrefix) stages the high half of the offset
in R14; the suffix (bBlSuffix) branches to R14 plus the low half and leaves the next address with bit 0 set in R14. -/
def Obligations.LongBranch : Prop :=
  ∀ (offset11 : BitVec 11) (s : State), s.tbit = true →
    (∃ t, exec (.bBlPrefix offset11) s = .next t ∧
      t.reg 14 = s.instrAddr + 4#32 + BitVec.ofInt 32 (4096 * offset11.toInt) ∧
      Frame [regSlot s.bank 14] s t ∧ NoAccess s t ∧ t.branchPending = s.branchPending ∧ t.draws = s.draws) ∧
    (∃ t, exec (.bBlSuffix offset11) s = .next t ∧
      t.slot 15 = s.reg 14 + BitVec.ofNat 32 (2 * offset11.toNat) ∧
      t.reg 14 = (s.instrAddr + 2#32) ||| 1#32 ∧ t.branchPending = true ∧
      Frame [15, regSlot s.bank 14] s t ∧ NoAccess s t ∧ t.draws = s.draws)

/-! ## The driver -/

/-- R540, R541, R515: a tick with nothing pending runs the instruction in `decoded`: with T = 0 what the Set-A decoder
reads from the word, with T = 1 what the Set-B decoder reads from its low 16 bits.  `step` is `exec` of it, told to the
trace sink, followed by the rest of the tick.  What the decoders read is well-formed. -/
def Obligations.StepRunsDecoded : Prop :=
  ∀ (i : Instr) (s : State), Ready s →
    (s.tbit = false ∧ i = decode (.setA s.decoded) ∨ s.tbit = true ∧ i = decode (.setB (s.decoded.setWidth 16))) →
    i.wellFormed = true ∧
    step s = andThen (exec i s.traced) (fun t => .next t.afterExecute) ∧
    (s.trace = none → s.traced = s) ∧
    (∀ calls, s.trace = some calls →
      s.traced = { s with trace := some (⟨s.instrAddr, s.decoded, i.mnemonic⟩ :: calls) })

/-- R540 steps 4 to 6, R544, R545: the end of a tick that finds no halt.  With a branch pending, the pipeline is
refilled by two fetches from the target aligned for the set CPSR.T now selects; else it advances by one fetch.  A stop
request ends the run (R548).  With the halt flag set the tick waits (R547): that it waits as a step of its own, in the
driver state Halted with nothing else done, is the model's choice (assumption log 8). -/
def Obligations.EndOfTick : Prop :=
  ∀ (t u : State) (a : Word), u = t.afterExecute → a = t.slot 15 &&& ~~~(t.inc - 1#32) →
    (t.haltFlag = true → u = { t with driver := .halted }) ∧
    (t.haltFlag = false →
      u.driver = (if t.stopRequest then .stopped else .running) ∧ u.branchPending = false ∧
      SlotsSameBut [15] t u ∧ u.mem = t.mem ∧ u.draws = t.draws ∧ u.irqLine = t.irqLine ∧
      u.regions = t.regions) ∧
    (t.haltFlag = false → t.branchPending = true →
      u.decoded = t.answer 0 t.fetchWidth a ∧ u.prefetched = t.answer 1 t.fetchWidth (a + t.inc) ∧
      u.slot 15 = a + 2#32 * t.inc ∧
      u.port = .get t.fetchWidth (a + t.inc) :: .get t.fetchWidth a :: t.port) ∧
    (t.haltFlag = false → t.branchPending = false →
      u.decoded = t.prefetched ∧ u.prefetched = t.answer 0 t.fetchWidth (t.slot 15) ∧
      u.slot 15 = t.slot 15 + t.inc ∧ u.port = .get t.fetchWidth (t.slot 15) :: t.port)

/-- R488, R490: an IRQ.  With the line raised and CPSR.I = 0 at the start of a tick, the entry of R485 is made with the
link A + 4, the pipeline is refilled at 0x18, and the instruction there runs in the same tick, in Set-A. -/
def Obligations.IrqEntry : Prop :=
  ∀ s : State, s.driver = .running → s.branchPending = false → s.irqLine = true → s.ibit = false →
    ∃ e u, Entered .irq 0x18#32 (s.instrAddr + 4#32) s e ∧
      u.decoded = s.answer 0 .word 0x18#32 ∧ u.prefetched = s.answer 1 .word 0x1C#32 ∧ u.slot 15 = 0x20#32 ∧
      u.branchPending = false ∧ SlotsSameBut [15] e u ∧ u.mem = s.mem ∧
      u.port = .get .word 0x1C#32 :: .get .word 0x18#32 :: s.port ∧ u.irqLine = true ∧
      step s = andThen (exec (decode (.setA u.decoded)) u.traced) (fun t => .next t.afterExecute)

/-- R547, R548, R550: a halted core polls.  The halt ends when a stop is requested, when the host has cleared the flag, or
when the halt task answers yes; the flag is then cleared and the tick goes on.  Else the core stays halted.  A stopped
core does nothing (assumption log 9) and a faulted one stays faulted with its record, an error of the memory collaborator
with whatever the collaborator raised (R86, R483; assumption log 7). -/
def Obligations.HaltAndStop : Prop :=
  ∀ s : State,
    (s.driver = .halted →
      (s.stopRequest = true ∨ s.haltFlag = false ∨ (s.haltTask = true ∧ Config.haltAnswer s.draws = true) →
        ∃ t : State, step s = .next t.endTick ∧ t.haltFlag = false ∧ t.slots = s.slots ∧ t.mem = s.mem ∧
          t.decoded = s.decoded ∧ t.prefetched = s.prefetched ∧ t.branchPending = s.branchPending ∧
          t.stopRequest = s.stopRequest ∧ t.port = s.port) ∧
      (s.stopRequest = false → s.haltFlag = true → ¬(s.haltTask = true ∧ Config.haltAnswer s.draws = true) →
        ∃ n, step s = .next { s with draws := n })) ∧
    (s.driver = .stopped → step s = .next s) ∧
    (∀ record, s.driver = .faulted record → step s = .fault record) ∧
    (∀ raised : String, step (HostPort.portError raised s) = .fault (.memoryPort raised) ∧
      HostPort.isRunning (HostPort.portError raised s) = false)

/-! ## The whole machine -/

/-- R542, R41: CPSR.T changes only in an instruction that also writes R15, so that a change of set is followed by a
refill. -/
def Obligations.SetChangesWithRefill : Prop :=
  ∀ (i : Instr) (s t : State), exec i s = .next t → t.tbit ≠ s.tbit → t.branchPending = true

/-- R506, R487, R505: an instruction in User mode that is no SWI, no undefined and no coprocessor word can leave neither
User mode nor its bounds: the mode, I, F and the reserved bits 23:8 stay (MSR writes bits 31:24 in User mode too, R241),
and so does every banked register and every SPSR of the privileged modes. -/
def Obligations.UserModeConfined : Prop :=
  ∀ (i : Instr) (s t : State), s.modeBits = Mode.user.bits → isTrap i = false → exec i s = .next t →
    (∀ k, k < 24 → k ≠ 5 → bit t.cpsr k = bit s.cpsr k) ∧ ∀ k : Fin 37, 17 ≤ k → t.slot k = s.slot k

/-- R47: an SPSR changes only by an exception entry or by MSR with R = 1; the entry writes the SPSR of Supervisor or
Undefined mode, MSR that of the current mode. -/
def Obligations.SpsrWriters : Prop :=
  ∀ (i : Instr) (s t : State) (m : Mode) (k : Fin 37), m.spsrSlot = some k → exec i s = .next t →
    t.slot k ≠ s.slot k →
    (isTrap i = true ∧ (m = .supervisor ∨ m = .undefined)) ∨ (isMsrSpsr i = true ∧ s.bank = m)

/-- R52, R53: no step of the core lowers or raises the interrupt line, or touches the stop request or the halt task; only
the end of a halt clears the halt flag. -/
def Obligations.HostFlagsKept : Prop :=
  ∀ s t : State, step s = .next t →
    t.irqLine = s.irqLine ∧ t.stopRequest = s.stopRequest ∧ t.haltTask = s.haltTask ∧
      (t.haltFlag ≠ s.haltFlag → s.driver = .halted ∧ t.haltFlag = false)

/-- The state after reset satisfies the invariant. -/
def Obligations.InvariantAtReset : Prop := Inv State.reset

/-- R45, R81, R49, R90: every step keeps the invariant: the memory's canonical form, a legal mode, an aligned pc and
pipeline words of the set's width. -/
def Obligations.InvariantKept : Prop := ∀ s t : State, Inv s → step s = .next t → Inv t

/-! ## Encoding -/

/-- R123-R136, R140-R159: the decoder and the encoder agree on every well-formed instruction of both sets, with every
operand at every value. -/
def Obligations.RoundTrip : Prop := ∀ i : Instr, i.wellFormed = true → decode (encode i) = i

/-- R120: both decoders follow the opcode table.  Every word belongs to exactly one row of its set's table, and decodes
to an instruction of that row's mnemonic. -/
def Obligations.DecoderFollowsTable : Prop :=
  (∀ w : Word, ∃ r ∈ OpcodeTable.rowsA, r.matches w = true ∧ (decode (.setA w)).mnemonic = r.name ∧
    ∀ q ∈ OpcodeTable.rowsA, q.matches w = true → q = r) ∧
  (∀ h : BitVec 16, ∃ r ∈ OpcodeTable.rowsB, r.matches h = true ∧ (decode (.setB h)).mnemonic = r.name ∧
    ∀ q ∈ OpcodeTable.rowsB, q.matches h = true → q = r)

/-- Words of the spec's examples, of both sets, decode to the instructions they stand for. -/
def Obligations.DecodedWords : Prop :=
  decode (.setA 0xE3A00001#32) = .movImm .al false 0 0#4 1#8 ∧
  decode (.setA 0x00010002#32) = .andRegImm .eq false 1 0 0#5 .lsl 2 ∧
  decode (.setA 0xE1B00271#32) = .movRegReg .al true 0 2 .ror 1 ∧
  decode (.setA 0xE129F001#32) = .msrReg .al .cpsr 9#4 1 ∧
  decode (.setA 0xE0E10392#32) = .smlal .al false 1 0 3 2 ∧
  decode (.setA 0xE7910102#32) = .ldrRegPre .al true false 1 0 2#5 .lsl 2 ∧
  decode (.setA 0xE17101B0#32) = .ldrhImm .al true false true 1 0 0x10#8 ∧
  decode (.setA 0xE92D4003#32) = .stm .al true false false true 13 0x4003#16 ∧
  decode (.setA 0xE1420091#32) = .swpb .al 2 0 1 ∧
  decode (.setA 0xEAFFFDFE#32) = .b .al 0xFFFDFE#24 ∧
  decode (.setA 0xE12FFF10#32) = .bx .al 0 ∧
  decode (.setA 0xEF000012#32) = .swi .al 0x000012#24 ∧
  decode (.setA 0xE0400090#32) = .unsupportedMultiply 0xE0400090#32 ∧
  decode (.setB 0x1108#16) = .bAsrImm 4#5 1 0 ∧
  decode (.setB 0x1DC8#16) = .bAddImm3 7#3 1 0 ∧
  decode (.setB 0x4248#16) = .bNegAlu 1 0 ∧
  decode (.setB 0x46F7#16) = .bMovHi 15 14 ∧
  decode (.setB 0x5E88#16) = .bLdshReg 2 1 0 ∧
  decode (.setB 0xBD03#16) = .bPop true 0x03#8 ∧
  decode (.setB 0xD1BE#16) = .bBne 0xBE#8 ∧
  decode (.setB 0xF7FF#16) = .bBlPrefix 0x7FF#11 ∧
  decode (.setB 0xE800#16) = .bUnd 0xE800#16
end

