-- ==== Sys2Proof/Laws/Bits.lean ====
section
/-! SUPPORT. Bit fields: a field of a word put together from fields (`field_put`, `bit_putBit` and their kin), single
bits of `withBit`, and the codes of the enumerations.  Used for the encoder and for the status words. -/

namespace Sys2Proof

@[simp] theorem field_or {n : Nat} (x y : BitVec n) (lo len : Nat) :
    field (x ||| y) lo len = field x lo len ||| field y lo len := by
  unfold field; ext i hi; simp

@[simp] theorem bit_or {n : Nat} (x y : BitVec n) (k : Nat) : bit (x ||| y) k = (bit x k || bit y k) := by
  simp [bit]

@[simp] theorem bit_and {n : Nat} (x y : BitVec n) (k : Nat) : bit (x &&& y) k = (bit x k && bit y k) := by
  simp [bit]

theorem field_put {n k : Nat} (b : BitVec k) (lo : Nat) (h : lo + k ≤ n) : field (put b lo : BitVec n) lo k = b := by
  unfold field put; ext i hi
  have h1 : lo + i < n := by omega
  simp [h1, BitVec.getLsbD_eq_getElem hi]

theorem field_put_ne {n k : Nat} (b : BitVec k) (lo lo' len : Nat) (h : lo + k ≤ lo' ∨ lo' + len ≤ lo) :
    field (put b lo : BitVec n) lo' len = 0#len := by
  unfold field put; ext i hi; simp; intros; apply BitVec.getLsbD_of_ge; omega

theorem bit_put_ne {n k : Nat} (b : BitVec k) (lo i : Nat) (h : lo + k ≤ i ∨ i < lo) :
    bit (put b lo : BitVec n) i = false := by
  unfold bit put; simp; intros; apply BitVec.getLsbD_of_ge; omega

theorem bit_putBit {n : Nat} (b : Bool) (i : Nat) (h : i < n) : bit (putBit b i : BitVec n) i = b := by
  unfold bit putBit put; simp [h]

theorem bit_putBit_ne {n : Nat} (b : Bool) (i j : Nat) (h : i ≠ j) : bit (putBit b i : BitVec n) j = false := by
  unfold putBit; rw [bit_put_ne]; omega

theorem field_putBit_ne {n : Nat} (b : Bool) (lo lo' len : Nat) (h : lo < lo' ∨ lo' + len ≤ lo) :
    field (putBit b lo : BitVec n) lo' len = 0#len := by
  unfold putBit; rw [field_put_ne]; omega

/-- A field inside a field that was put into place. -/
theorem field_put_sub {n k : Nat} (b : BitVec k) (lo lo' len : Nat) (h : lo ≤ lo' ∧ lo' + len ≤ lo + k ∧ lo + k ≤ n) :
    field (put b lo : BitVec n) lo' len = field b (lo' - lo) len := by
  apply BitVec.eq_of_getLsbD_eq
  intro i hi
  have h1 : lo' + i < n := by omega
  have h2 : ¬lo' + i < lo := by omega
  have h3 : lo' + i - lo = lo' - lo + i := by omega
  simp [field, put, hi, h1, h2, h3]

/-- A bit of a field that was put into place. -/
theorem bit_put_sub {n k : Nat} (b : BitVec k) (lo i : Nat) (h : lo ≤ i ∧ i < lo + k ∧ lo + k ≤ n) :
    bit (put b lo : BitVec n) i = bit b (i - lo) := by
  have h1 : i < n := by omega
  have h2 : ¬i < lo := by omega
  simp [bit, put, h1, h2]

/-- A literal field put into place is a literal word. -/
theorem put_ofNat {n k x lo : Nat} : (put (BitVec.ofNat k x) lo : BitVec n) = BitVec.ofNat n ((x % 2 ^ k) <<< lo) := by
  apply BitVec.eq_of_toNat_eq
  simp [put, BitVec.toNat_shiftLeft, Nat.shiftLeft_eq]

theorem putBit_false {n lo : Nat} : (putBit false lo : BitVec n) = 0#n := by
  simp [putBit, put]

theorem putBit_true {n lo : Nat} : (putBit true lo : BitVec n) = BitVec.ofNat n (1 <<< lo) := by
  have : BitVec.ofBool true = BitVec.ofNat 1 1 := rfl
  rw [putBit, this, put_ofNat]; simp

theorem field_lit {n x lo len : Nat} : field (BitVec.ofNat n x) lo len = BitVec.ofNat len ((x % 2 ^ n) >>> lo) := by
  unfold field; apply BitVec.eq_of_toNat_eq; simp

theorem bit_lit {n x i : Nat} : bit (BitVec.ofNat n x) i = decide (((x % 2 ^ n) >>> i) % 2 = 1) := by
  rw [bit, BitVec.getLsbD, BitVec.toNat_ofNat, Nat.testBit, Nat.one_and_eq_mod_two]
  rcases Nat.mod_two_eq_zero_or_one ((x % 2 ^ n) >>> i) with h | h <;> simp [h]

/-- A field of a field is a field. -/
theorem field_field {n lo len lo' len' : Nat} (w : BitVec n) (h : lo' + len' ≤ len) :
    field (field w lo len) lo' len' = field w (lo + lo') len' := by
  unfold field; ext i hi; simp [BitVec.getLsbD_extractLsb', Nat.add_assoc]; omega

theorem bit_field {n lo len k : Nat} (w : BitVec n) (h : k < len) : bit (field w lo len) k = bit w (lo + k) := by
  unfold bit field; simp [h]

theorem offset8_append (o : BitVec 8) : (field o 4 4 ++ field o 0 4 : BitVec 8) = o := by
  revert o; decide

@[simp] theorem bit_withBit {n : Nat} (w : BitVec n) (i k : Nat) (b : Bool) (h : i < n) :
    bit (withBit w i b) k = if k = i then b else bit w k := by
  unfold bit withBit
  by_cases hk : k = i
  · subst hk; cases b <;> simp [h]
  · have hi : i ≠ k := fun e => hk e.symm
    cases b <;> simp [BitVec.getLsbD_twoPow, hk, hi]
    exact fun hb => BitVec.lt_of_getLsbD hb

theorem bit_eq_field {n : Nat} (w : BitVec n) {lo len k : Nat} (h : lo ≤ k ∧ k < lo + len) :
    bit w k = bit (field w lo len) (k - lo) := by
  rw [bit_field w (by omega)]; congr 1; omega

theorem field_ext {n m lo len : Nat} {w : BitVec n} {v : BitVec m}
    (h : ∀ k, k < len → bit w (lo + k) = bit v (lo + k)) : field w lo len = field v lo len := by
  apply BitVec.eq_of_getLsbD_eq
  intro k hk
  have := h k hk
  simpa [field, bit, hk] using this

theorem field_withBit {n : Nat} (w : BitVec n) (i : Nat) (b : Bool) (lo len : Nat) (hi : i < n)
    (h : i < lo ∨ lo + len ≤ i) : field (withBit w i b) lo len = field w lo len := by
  apply field_ext
  intro k hk
  rw [bit_withBit w i _ b hi, if_neg (by omega)]

/-! A field is its bits. -/

theorem field_eq_two {n : Nat} (w : BitVec n) (lo : Nat) (b : BitVec 2) :
    field w lo 2 = b ↔ bit w lo = bit b 0 ∧ bit w (lo + 1) = bit b 1 := by
  constructor
  · rintro rfl; simp [bit, field]
  · rintro ⟨h0, h1⟩
    apply BitVec.eq_of_getLsbD_eq
    intro i hi
    rcases (by omega : i = 0 ∨ i = 1) with rfl | rfl <;> simp_all [bit, field]

theorem field_eq_three {n : Nat} (w : BitVec n) (lo : Nat) (b : BitVec 3) :
    field w lo 3 = b ↔ bit w lo = bit b 0 ∧ bit w (lo + 1) = bit b 1 ∧ bit w (lo + 2) = bit b 2 := by
  constructor
  · rintro rfl; simp [bit, field]
  · rintro ⟨h0, h1, h2⟩
    apply BitVec.eq_of_getLsbD_eq
    intro i hi
    rcases (by omega : i = 0 ∨ i = 1 ∨ i = 2) with rfl | rfl | rfl <;> simp_all [bit, field]

theorem field_eq_four {n : Nat} (w : BitVec n) (lo : Nat) (b : BitVec 4) :
    field w lo 4 = b ↔
      bit w lo = bit b 0 ∧ bit w (lo + 1) = bit b 1 ∧ bit w (lo + 2) = bit b 2 ∧ bit w (lo + 3) = bit b 3 := by
  constructor
  · rintro rfl; simp [bit, field]
  · rintro ⟨h0, h1, h2, h3⟩
    apply BitVec.eq_of_getLsbD_eq
    intro i hi
    rcases (by omega : i = 0 ∨ i = 1 ∨ i = 2 ∨ i = 3) with rfl | rfl | rfl | rfl <;> simp_all [bit, field]

theorem field_eq_five {n : Nat} (w : BitVec n) (lo : Nat) (b : BitVec 5) :
    field w lo 5 = b ↔ bit w lo = bit b 0 ∧ bit w (lo + 1) = bit b 1 ∧ bit w (lo + 2) = bit b 2 ∧
      bit w (lo + 3) = bit b 3 ∧ bit w (lo + 4) = bit b 4 := by
  constructor
  · rintro rfl; simp [bit, field]
  · rintro ⟨h0, h1, h2, h3, h4⟩
    apply BitVec.eq_of_getLsbD_eq
    intro i hi
    rcases (by omega : i = 0 ∨ i = 1 ∨ i = 2 ∨ i = 3 ∨ i = 4) with rfl | rfl | rfl | rfl | rfl <;>
      simp_all [bit, field]

theorem field_eq_six {n : Nat} (w : BitVec n) (lo : Nat) (b : BitVec 6) :
    field w lo 6 = b ↔ bit w lo = bit b 0 ∧ bit w (lo + 1) = bit b 1 ∧ bit w (lo + 2) = bit b 2 ∧
      bit w (lo + 3) = bit b 3 ∧ bit w (lo + 4) = bit b 4 ∧ bit w (lo + 5) = bit b 5 := by
  constructor
  · rintro rfl; simp [bit, field]
  · rintro ⟨h0, h1, h2, h3, h4, h5⟩
    apply BitVec.eq_of_getLsbD_eq
    intro i hi
    rcases (by omega : i = 0 ∨ i = 1 ∨ i = 2 ∨ i = 3 ∨ i = 4 ∨ i = 5) with rfl | rfl | rfl | rfl | rfl | rfl <;>
      simp_all [bit, field]

@[simp] theorem Cond.ofBits_bits (c : Cond) : Cond.ofBits c.bits = c := by cases c <;> rfl
@[simp] theorem Cond.bits_ofBits (b : BitVec 4) : (Cond.ofBits b).bits = b := by revert b; decide
@[simp] theorem ShiftType.ofBits_bits (t : ShiftType) : ShiftType.ofBits t.bits = t := by cases t <;> rfl
@[simp] theorem DpOp.ofBits_bits (o : DpOp) : DpOp.ofBits o.bits = o := by cases o <;> rfl
@[simp] theorem Psr.ofBit_bit (p : Psr) : Psr.ofBit p.bit = p := by cases p <;> rfl
@[simp] theorem Reg.ofBits_bits (r : Reg) : Reg.ofBits (Reg.bits r) = r := rfl
@[simp] theorem LowReg.ofBits_bits (r : LowReg) : LowReg.ofBits (LowReg.bits r) = r := rfl
@[simp] theorem Reg.ofParts_bits (r : Reg) : Reg.ofParts (bit (Reg.bits r) 3) (field (Reg.bits r) 0 3) = r := by
  revert r; decide

end Sys2Proof
end

