-- ==== Sys2Proof/Laws/Encoding.lean ====
section
/-! SUPPORT. What the decoders read from the words of each format: one lemma for a format, from which the round trip of
each of its instructions follows. -/

namespace Sys2Proof.Laws

set_option linter.unusedSimpArgs false

/-- Data processing is read back unless the opcode is TST, TEQ, CMP or CMN with S = 0, the misc space (R123). -/
theorem decodeA_dpImm (op : DpOp) (cond : Cond) (sf : Bool) (rn rd : Reg) (rotate : BitVec 4) (imm8 : BitVec 8)
    (h : ¬(field op.bits 2 2 = 0b10#2 ∧ sf = false)) :
    decodeA (wordDpImm op cond sf rn rd rotate imm8) = .dpImm op cond sf rn rd rotate imm8 := by
  simp [decodeA, wordDpImm, field_put, field_put_ne, bit_put_ne, bit_putBit, bit_putBit_ne, field_putBit_ne, put_ofNat,
    field_lit, bit_lit, field_put_sub] at h ⊢
  exact fun h1 h2 => absurd h2 (by simp [h h1])

theorem decodeA_dpRegImm (op : DpOp) (cond : Cond) (sf : Bool) (rn rd : Reg) (amount : BitVec 5) (sh : ShiftType)
    (rm : Reg) (h : ¬(field op.bits 2 2 = 0b10#2 ∧ sf = false)) :
    decodeA (wordDpRegImm op cond sf rn rd amount sh rm) = .dpRegImm op cond sf rn rd amount sh rm := by
  simp [decodeA, wordDpRegImm, field_put, field_put_ne, bit_put_ne, bit_putBit, bit_putBit_ne, field_putBit_ne,
    put_ofNat, putBit_false, field_lit, bit_lit, field_put_sub] at h ⊢
  exact fun h1 h2 => absurd h2 (by simp [h h1])

theorem decodeA_dpRegReg (op : DpOp) (cond : Cond) (sf : Bool) (rn rd rs : Reg) (sh : ShiftType)
    (rm : Reg) (h : ¬(field op.bits 2 2 = 0b10#2 ∧ sf = false)) :
    decodeA (wordDpRegReg op cond sf rn rd rs sh rm) = .dpRegReg op cond sf rn rd rs sh rm := by
  simp [decodeA, wordDpRegReg, field_put, field_put_ne, bit_put_ne, bit_putBit, bit_putBit_ne, field_putBit_ne,
    put_ofNat, putBit_false, putBit_true, field_lit, bit_lit, field_put_sub] at h ⊢
  exact fun h1 h2 => absurd h2 (by simp [h h1])

theorem decodeA_mul (cond : Cond) (a sf : Bool) (rd rn rs rm : Reg) :
    decodeA (wordMul cond a sf rd rn rs rm) = if a then .mla cond sf rd rn rs rm else .mul cond sf rd rs rm := by
  simp [decodeA, decodeMultiplySpace, wordMul, field_put, field_put_ne, bit_put_ne, bit_putBit, bit_putBit_ne,
    field_putBit_ne, put_ofNat, field_lit, bit_lit]

theorem decodeA_mull (cond : Cond) (u a sf : Bool) (rdHi rdLo rs rm : Reg) :
    decodeA (wordMull cond u a sf rdHi rdLo rs rm) =
      if u then (if a then .smlal cond sf rdHi rdLo rs rm else .smull cond sf rdHi rdLo rs rm)
      else (if a then .umlal cond sf rdHi rdLo rs rm else .umull cond sf rdHi rdLo rs rm) := by
  cases u <;>
  simp [decodeA, decodeMultiplySpace, wordMull, field_put, field_put_ne, bit_put_ne, bit_putBit, bit_putBit_ne,
    field_putBit_ne, put_ofNat, putBit_false, putBit_true, field_lit, bit_lit]

theorem decodeA_swp (cond : Cond) (b : Bool) (rn rd rm : Reg) :
    decodeA (wordSwp cond b rn rd rm) = if b then .swpb cond rn rd rm else .swp cond rn rd rm := by
  cases b <;>
  simp [decodeA, decodeMultiplySpace, wordSwp, field_put, field_put_ne, bit_put_ne, bit_putBit, bit_putBit_ne,
    field_putBit_ne, put_ofNat, putBit_false, putBit_true, field_lit, bit_lit]

theorem decodeA_sdtImm (cond : Cond) (pre up byte wb load : Bool) (rn rd : Reg) (offset : BitVec 12) :
    decodeA (wordSdtImm cond pre up byte wb load rn rd offset) =
      if byte then
        if pre then (if load then .ldrbImmPre cond up wb rn rd offset else .strbImmPre cond up wb rn rd offset)
        else if wb then (if load then .ldrbtImm cond up rn rd offset else .strbtImm cond up rn rd offset)
        else (if load then .ldrbImmPost cond up rn rd offset else .strbImmPost cond up rn rd offset)
      else
        if pre then (if load then .ldrImmPre cond up wb rn rd offset else .strImmPre cond up wb rn rd offset)
        else if wb then (if load then .ldrtImm cond up rn rd offset else .strtImm cond up rn rd offset)
        else (if load then .ldrImmPost cond up rn rd offset else .strImmPost cond up rn rd offset) := by
  simp [decodeA, decodeSingleTransfer, wordSdtImm, field_put, field_put_ne, bit_put_ne, bit_putBit, bit_putBit_ne,
    field_putBit_ne, put_ofNat, field_lit, bit_lit]

theorem decodeA_sdtReg (cond : Cond) (pre up byte wb load : Bool) (rn rd : Reg) (amount : BitVec 5) (sh : ShiftType)
    (rm : Reg) :
    decodeA (wordSdtReg cond pre up byte wb load rn rd amount sh rm) =
      if byte then
        if pre then
          (if load then .ldrbRegPre cond up wb rn rd amount sh rm else .strbRegPre cond up wb rn rd amount sh rm)
        else if wb then (if load then .ldrbtReg cond up rn rd amount sh rm else .strbtReg cond up rn rd amount sh rm)
        else (if load then .ldrbRegPost cond up rn rd amount sh rm else .strbRegPost cond up rn rd amount sh rm)
      else
        if pre then
          (if load then .ldrRegPre cond up wb rn rd amount sh rm else .strRegPre cond up wb rn rd amount sh rm)
        else if wb then (if load then .ldrtReg cond up rn rd amount sh rm else .strtReg cond up rn rd amount sh rm)
        else (if load then .ldrRegPost cond up rn rd amount sh rm else .strRegPost cond up rn rd amount sh rm) := by
  simp [decodeA, decodeSingleTransfer, wordSdtReg, field_put, field_put_ne, bit_put_ne, bit_putBit, bit_putBit_ne,
    field_putBit_ne, put_ofNat, putBit_false, field_lit, bit_lit]

theorem decodeB_alu (op : BitVec 4) (rs rd : LowReg) : decodeB (halfAlu op rs rd) = decodeAluB op rs rd := by
  simp [decodeB, halfAlu, field_put, field_put_ne, bit_put_ne, put_ofNat, field_lit, bit_lit]

theorem decodeB_condBranch (cond : Cond) (soffset8 : BitVec 8) (h : cond ≠ .al ∧ cond ≠ .nv) :
    decodeB (halfCondBranch cond soffset8) = decodeCondBranchB cond.bits soffset8 := by
  have h1 : cond.bits ≠ 0b1111#4 ∧ cond.bits ≠ 0b1110#4 := by revert h; cases cond <;> decide
  simp [decodeB, halfCondBranch, field_put, field_put_ne, bit_put_ne, put_ofNat, field_lit, bit_lit, h1]

theorem decodeB_pushPop (load r : Bool) (rlist : BitVec 8) :
    decodeB (halfPushPop load r rlist) = if load then .bPop r rlist else .bPush r rlist := by
  cases load <;>
  simp [decodeB, halfPushPop, field_put, field_put_ne, bit_put_ne, bit_putBit, bit_putBit_ne, field_putBit_ne,
    put_ofNat, putBit_false, putBit_true, field_lit, bit_lit]

/-! The raw words: a word of a class decodes to the constructor of the class (R137, R160). -/

theorem decodeA_reservedMultiply (w : Word) (h : isReservedMultiply w = true) : decodeA w = .unsupportedMultiply w := by
  simp [isReservedMultiply, field_eq_six, field_eq_four, bit_lit] at h
  simp [decodeA, decodeMultiplySpace, field_eq_two, field_eq_three, bit_lit, h]

theorem decodeA_reservedSwap (w : Word) (h : isReservedSwap w = true) : decodeA w = .unsupportedSwap w := by
  simp [isReservedSwap, field_eq_two, field_eq_four, bit_lit] at h
  obtain ⟨⟨h1, h2⟩, h3⟩ := h
  simp [decodeA, decodeMultiplySpace, field_eq_two, field_eq_three, bit_lit, h1, h2]
  rintro h4 h5 h6
  simp_all

theorem decodeA_reservedHalfwordStore (w : Word) (h : isReservedHalfwordStore w = true) :
    decodeA w = .unsupportedHalfwordStore w := by
  simp [isReservedHalfwordStore, field_eq_three, field_eq_four, bit_lit] at h
  obtain ⟨⟨h1, h2⟩, h3 | h3⟩ := h <;>
    simp [decodeA, decodeMultiplySpace, field_eq_two, field_eq_three, bit_lit, h1, h2, h3]

theorem decodeA_reservedMisc (w : Word) (h : isReservedMisc w = true) : decodeA w = .unsupportedMisc w := by
  simp [isReservedMisc, field_eq_two, field_eq_five, field_eq_four, bit_lit] at h
  obtain ⟨⟨⟨⟨h1, h2⟩, h3⟩, h4⟩, h5⟩ := h
  simp [decodeA, decodeMiscSpace, field_eq_two, field_eq_three, field_eq_four, bit_lit, h1, h2]
  cases hb4 : bit w 4 <;> cases hb5 : bit w 5 <;> cases hb6 : bit w 6 <;> cases hb7 : bit w 7 <;> simp_all <;>
    (intro h; simpa [h] using h5)

theorem decodeA_reservedImmMisc (w : Word) (h : isReservedImmMisc w = true) : decodeA w = .unsupportedImmMisc w := by
  simp [isReservedImmMisc, field_eq_two, field_eq_five, bit_lit] at h
  simp [decodeA, field_eq_two, field_eq_three, bit_lit, h]

/-- The top byte decides whether a Set-B word is undefined, and how R140 finds it so. -/
theorem undefinedB_cases (h : Half) (hu : isUndefinedB h = true) :
    (field h 13 3 = 0b101#3 ∧ bit h 12 = true ∧ field h 8 4 ≠ 0b0000#4 ∧ field h 9 2 ≠ 0b10#2) ∨
    (field h 13 3 = 0b110#3 ∧ bit h 12 = true ∧ field h 8 4 = 0b1110#4) ∨
    (field h 13 3 = 0b111#3 ∧ field h 11 2 = 0b01#2) := by
  have key : ∀ t : BitVec 8,
      (0xB1#8 ≤ t ∧ t ≤ 0xB3#8) ∨ (0xB6#8 ≤ t ∧ t ≤ 0xBB#8) ∨ (0xBE#8 ≤ t ∧ t ≤ 0xBF#8) ∨ t = 0xDE#8 ∨
        (0xE8#8 ≤ t ∧ t ≤ 0xEF#8) →
      (field t 5 3 = 0b101#3 ∧ bit t 4 = true ∧ field t 0 4 ≠ 0b0000#4 ∧ field t 1 2 ≠ 0b10#2) ∨
      (field t 5 3 = 0b110#3 ∧ bit t 4 = true ∧ field t 0 4 = 0b1110#4) ∨
      (field t 5 3 = 0b111#3 ∧ field t 3 2 = 0b01#2) := by decide
  have h8 := key (field h 8 8) (by
    have e : (field h 8 8).toNat = h.toNat / 256 := by
      have := h.isLt
      simp [field, BitVec.extractLsb'_toNat, Nat.shiftRight_eq_div_pow]; omega
    simp [isUndefinedB, BitVec.le_def] at hu
    simp only [BitVec.le_def, ← BitVec.toNat_inj, e, BitVec.toNat_ofNat]
    omega)
  simpa [field_field, bit_field] using h8

theorem decodeB_undefined (h : Half) (hu : isUndefinedB h = true) : decodeB h = .bUnd h := by
  rcases undefinedB_cases h hu with ⟨h1, h2, h3, h4⟩ | ⟨h1, h2, h3⟩ | ⟨h1, h2⟩
  · simp [decodeB, h1, h2, h3, h4]
  · simp [decodeB, h1, h2, h3]
  · simp [decodeB, h1, h2]

end Sys2Proof.Laws
end

