-- ==== Sys2Proof/Laws/Memory.lean ====
section
/-! SUPPORT. The laws of memory: what a byte reads as after a write, and that every memory operation of the model keeps
the canonical form. -/

namespace Sys2Proof.Machine

/-! ### The address of an access (R83, R84) -/

theorem Width.alignDown_eq (k : Width) (a : Word) :
    k.alignDown a = match k with
      | .byte => a
      | .half => (a >>> 1) <<< 1
      | .word => (a >>> 2) <<< 2 := by
  apply BitVec.eq_of_getLsbD_eq
  intro i hi
  cases k <;> simp only [Width.alignDown, Width.bytes] <;> interval_cases i <;> simp

theorem Width.toNat_alignDown (k : Width) (a : Word) :
    (k.alignDown a).toNat = a.toNat / k.bytes * k.bytes := by
  have ha := a.isLt
  rw [Width.alignDown_eq]
  cases k <;> simp [Width.bytes, BitVec.toNat_shiftLeft, Nat.shiftRight_eq_div_pow, Nat.shiftLeft_eq] <;> omega

/-- An access never leaves the address space (R81, R83). -/
theorem Width.alignDown_bound (k : Width) (a : Word) : (k.alignDown a).toNat + k.bytes ≤ 2 ^ 32 := by
  have ha := a.isLt
  rw [Width.toNat_alignDown]
  cases k <;> simp [Width.bytes] <;> omega

theorem Width.bytes_pos (k : Width) : 0 < k.bytes := by cases k <;> decide

namespace Memory

/-! ### One byte -/

theorem byteAt_setByte_ne (m : Memory) {a b : Nat} (v : Byte) (h : b ≠ a) : (m.setByte a v).byteAt b = m.byteAt b := by
  induction m with
  | nil => unfold setByte; split <;> simp [byteAt, h]
  | cons c rest ih =>
    obtain ⟨key, x⟩ := c
    unfold setByte
    split
    · split <;> simp [byteAt, h]
    · split
      · next hk => split <;> simp [byteAt, h, ← hk]
      · simp [byteAt, ih]

theorem byteAt_of_wfFrom {low : Nat} {m : Memory} {a : Nat} (hm : wfFrom low m = true) (ha : a < low) :
    m.byteAt a = fill := by
  induction m generalizing low with
  | nil => rfl
  | cons c rest ih =>
    obtain ⟨key, x⟩ := c
    simp [wfFrom] at hm
    have : a ≠ key := by omega
    simp [byteAt, this, ih hm.2 (by omega)]

theorem byteAt_setByte_same {low : Nat} {m : Memory} (a : Nat) (v : Byte) (hm : wfFrom low m = true) :
    (m.setByte a v).byteAt a = v := by
  induction m generalizing low with
  | nil => unfold setByte; split <;> simp_all [byteAt]
  | cons c rest ih =>
    obtain ⟨key, x⟩ := c
    simp [wfFrom] at hm
    unfold setByte
    split
    · next hk =>
      have hne : a ≠ key := by omega
      split
      · next hv => simp [byteAt, hne, hv, byteAt_of_wfFrom hm.2 (by omega : a < key + 1)]
      · simp [byteAt]
    · next hlt =>
      split
      · next hk =>
        split
        · next hv => simp [hv, hk, byteAt_of_wfFrom hm.2 (by omega : key < key + 1)]
        · simp [byteAt]
      · next hk => simp [byteAt, hk, ih hm.2]

theorem wfFrom_setByte {low : Nat} {m : Memory} {a : Nat} (v : Byte) (hm : wfFrom low m = true) (hl : low ≤ a)
    (ha : a < 2 ^ 32) : wfFrom low (m.setByte a v) = true := by
  induction m generalizing low with
  | nil => unfold setByte; split <;> simp_all [wfFrom]
  | cons c rest ih =>
    obtain ⟨key, x⟩ := c
    simp [wfFrom] at hm
    have weaken : ∀ {l l' : Nat}, l' ≤ l → ∀ {r : Memory}, wfFrom l r = true → wfFrom l' r = true := by
      intro l l' hle r hr
      cases r with
      | nil => rfl
      | cons d _ => obtain ⟨k', y⟩ := d; simp [wfFrom] at hr ⊢; exact ⟨⟨⟨by omega, hr.1.1.2⟩, hr.1.2⟩, hr.2⟩
    unfold setByte
    split
    · split
      · simpa [wfFrom] using hm
      · simp_all [wfFrom]
    · split
      · next hk =>
        split
        · exact weaken (by omega) hm.2
        · simp [wfFrom, hk, hm]; simp_all
      · simp [wfFrom, hm, ih hm.2 (by omega)]

/-- Writing a byte keeps the canonical form. -/
theorem wf_setByte {m : Memory} {a : Nat} (v : Byte) (hm : m.wf = true) (ha : a < 2 ^ 32) : (m.setByte a v).wf = true :=
  wfFrom_setByte v hm (Nat.zero_le a) ha

@[simp] theorem byteAt_setByte {m : Memory} (a b : Nat) (v : Byte) (hm : m.wf = true) :
    (m.setByte a v).byteAt b = if b = a then v else m.byteAt b := by
  split
  · next h => rw [h, byteAt_setByte_same a v hm]
  · next h => exact byteAt_setByte_ne m v h

/-! ### An access -/

theorem wf_writeBytes {m : Memory} {a k n : Nat} (v : Word) (hm : m.wf = true) (h : a + k + n ≤ 2 ^ 32) :
    (m.writeBytes a v k n).wf = true := by
  induction n generalizing m k with
  | zero => exact hm
  | succ n ih => exact ih (wf_setByte _ hm (by omega)) (by omega)

/-- A write of the port keeps the canonical form (R84). -/
theorem wf_write {m : Memory} (k : Width) (a v : Word) (hm : m.wf = true) : (m.write k a v).wf = true :=
  wf_writeBytes v hm (by simpa using k.alignDown_bound a)

theorem byteAt_writeBytes_ne (m : Memory) {a k n b : Nat} (v : Word) (h : b < a + k ∨ a + k + n ≤ b) :
    (m.writeBytes a v k n).byteAt b = m.byteAt b := by
  induction n generalizing m k with
  | zero => rfl
  | succ n ih => rw [writeBytes, ih _ (by omega), byteAt_setByte_ne _ _ (by omega)]

theorem byteAt_writeBytes {m : Memory} {a k n b : Nat} (v : Word) (hm : m.wf = true) (hb : a + k + n ≤ 2 ^ 32) :
    (m.writeBytes a v k n).byteAt b = if a + k ≤ b ∧ b < a + k + n then byteOf v (b - a) else m.byteAt b := by
  induction n generalizing m k with
  | zero => simp [writeBytes]
  | succ n ih =>
    rw [writeBytes, ih (wf_setByte _ hm (by omega)) (by omega), byteAt_setByte _ _ _ hm]
    by_cases h1 : b = a + k
    · subst h1; simp
    · by_cases h2 : a + (k + 1) ≤ b ∧ b < a + (k + 1) + n
      · rw [if_pos h2, if_pos (by omega)]
      · rw [if_neg h2, if_neg h1, if_neg (by omega)]

/-- A write leaves every byte outside its access (R84). -/
theorem byteAt_write_ne (m : Memory) (k : Width) (a v : Word) {b : Nat}
    (h : b < (k.alignDown a).toNat ∨ (k.alignDown a).toNat + k.bytes ≤ b) : (m.write k a v).byteAt b = m.byteAt b :=
  byteAt_writeBytes_ne m v (by simpa using h)

/-! ### Code placed in memory -/

theorem wf_placeBytes {m : Memory} (a : Nat) (bs : List Byte) (hm : m.wf = true) : (placeBytes m a bs).wf = true := by
  induction bs generalizing m a with
  | nil => exact hm
  | cons b rest ih => exact ih _ (wf_setByte b hm (Nat.mod_lt _ (by norm_num)))

end Memory

/-! ### The state's memory operations -/

theorem wf_store {s : State} (k : Width) (a v : Word) (h : s.mem.wf = true) : (s.store k a v).mem.wf = true :=
  Memory.wf_write k a v h

theorem wf_storeWords {s : State} (a : Word) (vs : List Word) (h : s.mem.wf = true) :
    (s.storeWords a vs).mem.wf = true := by
  induction vs generalizing s a with
  | nil => exact h
  | cons v rest ih => exact ih _ (wf_store .word a v h)

theorem wf_populate {s : State} (a : Word) (b : Byte) (h : s.mem.wf = true) :
    (HostPort.populate a b s).mem.wf = true := Memory.wf_setByte b h a.isLt

/-- Reset memory has the canonical form. -/
theorem wf_reset : State.reset.mem.wf = true := rfl

end Sys2Proof.Machine
end

