-- ==== Sys2Proof/Laws/State.lean ====
section
/-! SUPPORT. One lemma for each field under each update of the state, so that no proof unfolds a record update, and the
laws of the banking map and of the status word that the register updates rest on. -/

namespace Sys2Proof.Machine

/-! ### The banking map (R33) -/

theorem regSlot_ne_cpsr (m : Mode) (r : Reg) : regSlot m r ≠ 16 := by cases m <;> revert r <;> decide

theorem cpsr_ne_regSlot (m : Mode) (r : Reg) : (16 : Fin 37) ≠ regSlot m r := fun h => regSlot_ne_cpsr m r h.symm

@[simp] theorem regSlot_pc (m : Mode) : regSlot m 15 = 15 := by cases m <;> rfl

theorem regSlot_eq_pc (m : Mode) (r : Reg) : regSlot m r = 15 ↔ r = 15 := by cases m <;> revert r <;> decide

theorem regSlot_inj (m : Mode) (r q : Reg) : regSlot m r = regSlot m q ↔ r = q := by
  cases m <;> revert r q <;> decide

theorem spsrSlot_ne_regSlot {m : Mode} {k : Fin 37} (h : m.spsrSlot = some k) (m' : Mode) (r : Reg) :
    k ≠ regSlot m' r := by
  cases m <;> simp [Mode.spsrSlot] at h <;> subst h <;> cases m' <;> revert r <;> decide

theorem spsrSlot_ne_cpsr {m : Mode} {k : Fin 37} (h : m.spsrSlot = some k) : k ≠ 16 := by
  cases m <;> simp [Mode.spsrSlot] at h <;> subst h <;> decide

@[simp] theorem Mode.ofBits_bits (m : Mode) : Mode.ofBits m.bits = some m := by cases m <;> rfl

theorem Mode.bits_of_ofBits {b : BitVec 5} {m : Mode} (h : Mode.ofBits b = some m) : m.bits = b := by
  revert h; revert b; cases m <;> decide

namespace State

/-! ### Slots -/

@[simp] theorem slot_setSlot (s : State) (k j : Fin 37) (v : Word) :
    (s.setSlot k v).slot j = if j = k then v else s.slot j := by
  simp only [slot, setSlot, Fin.getElem_fin, Vector.getElem_set]
  by_cases h : j = k
  · simp [h]
  · have : ¬k.val = j.val := fun e => h (Fin.ext e.symm)
    simp [h, this]

@[simp] theorem slot_setCpsr (s : State) (j : Fin 37) (v : Word) :
    (s.setCpsr v).slot j = if j = 16 then v else s.slot j := slot_setSlot s 16 j v

@[simp] theorem slot_writePc (s : State) (j : Fin 37) (v : Word) :
    (s.writePc v).slot j = if j = 15 then v else s.slot j := slot_setSlot s 15 j v

@[simp] theorem slot_setReg (s : State) (r : Reg) (j : Fin 37) (v : Word) :
    (s.setReg r v).slot j = if j = regSlot s.bank r then v else s.slot j := by
  unfold setReg
  split
  · next h => have : r = 15 := Fin.ext h
              subst this; simp
  · simp

@[simp] theorem slot_setUserReg (s : State) (r : Reg) (j : Fin 37) (v : Word) :
    (s.setUserReg r v).slot j = if j = regSlot .user r then v else s.slot j := by
  unfold setUserReg
  split
  · next h => have : r = 15 := Fin.ext h
              subst this; simp
  · simp

@[simp] theorem slot_setLow (s : State) (r : LowReg) (j : Fin 37) (v : Word) :
    (s.setLow r v).slot j = if j = regSlot s.bank (Fin.ofNat 16 r.val) then v else s.slot j := slot_setReg ..

@[simp] theorem slot_noteRead (s : State) (k : Width) (a : Word) (j : Fin 37) : (s.noteRead k a).slot j = s.slot j := rfl
@[simp] theorem slot_store (s : State) (k : Width) (a v : Word) (j : Fin 37) : (s.store k a v).slot j = s.slot j := rfl
@[simp] theorem slot_drew (s : State) (n : Nat) (j : Fin 37) : (s.drew n).slot j = s.slot j := rfl

/-! ### The other fields -/

@[simp] theorem decoded_setSlot (s : State) (k : Fin 37) (v : Word) : (s.setSlot k v).decoded = s.decoded := rfl
@[simp] theorem prefetched_setSlot (s : State) (k : Fin 37) (v : Word) :
    (s.setSlot k v).prefetched = s.prefetched := rfl
@[simp] theorem branchPending_setSlot (s : State) (k : Fin 37) (v : Word) :
    (s.setSlot k v).branchPending = s.branchPending := rfl
@[simp] theorem driver_setSlot (s : State) (k : Fin 37) (v : Word) : (s.setSlot k v).driver = s.driver := rfl
@[simp] theorem stopRequest_setSlot (s : State) (k : Fin 37) (v : Word) :
    (s.setSlot k v).stopRequest = s.stopRequest := rfl
@[simp] theorem irqLine_setSlot (s : State) (k : Fin 37) (v : Word) : (s.setSlot k v).irqLine = s.irqLine := rfl
@[simp] theorem haltFlag_setSlot (s : State) (k : Fin 37) (v : Word) : (s.setSlot k v).haltFlag = s.haltFlag := rfl
@[simp] theorem haltTask_setSlot (s : State) (k : Fin 37) (v : Word) : (s.setSlot k v).haltTask = s.haltTask := rfl
@[simp] theorem mem_setSlot (s : State) (k : Fin 37) (v : Word) : (s.setSlot k v).mem = s.mem := rfl
@[simp] theorem regions_setSlot (s : State) (k : Fin 37) (v : Word) : (s.setSlot k v).regions = s.regions := rfl
@[simp] theorem port_setSlot (s : State) (k : Fin 37) (v : Word) : (s.setSlot k v).port = s.port := rfl
@[simp] theorem trace_setSlot (s : State) (k : Fin 37) (v : Word) : (s.setSlot k v).trace = s.trace := rfl
@[simp] theorem draws_setSlot (s : State) (k : Fin 37) (v : Word) : (s.setSlot k v).draws = s.draws := rfl
@[simp] theorem decoded_setCpsr (s : State) (v : Word) : (s.setCpsr v).decoded = s.decoded := rfl
@[simp] theorem prefetched_setCpsr (s : State) (v : Word) : (s.setCpsr v).prefetched = s.prefetched := rfl
@[simp] theorem branchPending_setCpsr (s : State) (v : Word) : (s.setCpsr v).branchPending = s.branchPending := rfl
@[simp] theorem driver_setCpsr (s : State) (v : Word) : (s.setCpsr v).driver = s.driver := rfl
@[simp] theorem stopRequest_setCpsr (s : State) (v : Word) : (s.setCpsr v).stopRequest = s.stopRequest := rfl
@[simp] theorem irqLine_setCpsr (s : State) (v : Word) : (s.setCpsr v).irqLine = s.irqLine := rfl
@[simp] theorem haltFlag_setCpsr (s : State) (v : Word) : (s.setCpsr v).haltFlag = s.haltFlag := rfl
@[simp] theorem haltTask_setCpsr (s : State) (v : Word) : (s.setCpsr v).haltTask = s.haltTask := rfl
@[simp] theorem mem_setCpsr (s : State) (v : Word) : (s.setCpsr v).mem = s.mem := rfl
@[simp] theorem regions_setCpsr (s : State) (v : Word) : (s.setCpsr v).regions = s.regions := rfl
@[simp] theorem port_setCpsr (s : State) (v : Word) : (s.setCpsr v).port = s.port := rfl
@[simp] theorem trace_setCpsr (s : State) (v : Word) : (s.setCpsr v).trace = s.trace := rfl
@[simp] theorem draws_setCpsr (s : State) (v : Word) : (s.setCpsr v).draws = s.draws := rfl
@[simp] theorem decoded_writePc (s : State) (v : Word) : (s.writePc v).decoded = s.decoded := rfl
@[simp] theorem prefetched_writePc (s : State) (v : Word) : (s.writePc v).prefetched = s.prefetched := rfl
@[simp] theorem branchPending_writePc (s : State) (v : Word) : (s.writePc v).branchPending = true := rfl
@[simp] theorem driver_writePc (s : State) (v : Word) : (s.writePc v).driver = s.driver := rfl
@[simp] theorem stopRequest_writePc (s : State) (v : Word) : (s.writePc v).stopRequest = s.stopRequest := rfl
@[simp] theorem irqLine_writePc (s : State) (v : Word) : (s.writePc v).irqLine = s.irqLine := rfl
@[simp] theorem haltFlag_writePc (s : State) (v : Word) : (s.writePc v).haltFlag = s.haltFlag := rfl
@[simp] theorem haltTask_writePc (s : State) (v : Word) : (s.writePc v).haltTask = s.haltTask := rfl
@[simp] theorem mem_writePc (s : State) (v : Word) : (s.writePc v).mem = s.mem := rfl
@[simp] theorem regions_writePc (s : State) (v : Word) : (s.writePc v).regions = s.regions := rfl
@[simp] theorem port_writePc (s : State) (v : Word) : (s.writePc v).port = s.port := rfl
@[simp] theorem trace_writePc (s : State) (v : Word) : (s.writePc v).trace = s.trace := rfl
@[simp] theorem draws_writePc (s : State) (v : Word) : (s.writePc v).draws = s.draws := rfl
@[simp] theorem decoded_noteRead (s : State) (k : Width) (a : Word) : (s.noteRead k a).decoded = s.decoded := rfl
@[simp] theorem prefetched_noteRead (s : State) (k : Width) (a : Word) :
    (s.noteRead k a).prefetched = s.prefetched := rfl
@[simp] theorem branchPending_noteRead (s : State) (k : Width) (a : Word) :
    (s.noteRead k a).branchPending = s.branchPending := rfl
@[simp] theorem driver_noteRead (s : State) (k : Width) (a : Word) : (s.noteRead k a).driver = s.driver := rfl
@[simp] theorem stopRequest_noteRead (s : State) (k : Width) (a : Word) :
    (s.noteRead k a).stopRequest = s.stopRequest := rfl
@[simp] theorem irqLine_noteRead (s : State) (k : Width) (a : Word) : (s.noteRead k a).irqLine = s.irqLine := rfl
@[simp] theorem haltFlag_noteRead (s : State) (k : Width) (a : Word) : (s.noteRead k a).haltFlag = s.haltFlag := rfl
@[simp] theorem haltTask_noteRead (s : State) (k : Width) (a : Word) : (s.noteRead k a).haltTask = s.haltTask := rfl
@[simp] theorem mem_noteRead (s : State) (k : Width) (a : Word) : (s.noteRead k a).mem = s.mem := rfl
@[simp] theorem regions_noteRead (s : State) (k : Width) (a : Word) : (s.noteRead k a).regions = s.regions := rfl
@[simp] theorem port_noteRead (s : State) (k : Width) (a : Word) : (s.noteRead k a).port = .get k a :: s.port := rfl
@[simp] theorem trace_noteRead (s : State) (k : Width) (a : Word) : (s.noteRead k a).trace = s.trace := rfl
@[simp] theorem draws_noteRead (s : State) (k : Width) (a : Word) : (s.noteRead k a).draws = s.draws := rfl
@[simp] theorem decoded_store (s : State) (k : Width) (a v : Word) : (s.store k a v).decoded = s.decoded := rfl
@[simp] theorem prefetched_store (s : State) (k : Width) (a v : Word) : (s.store k a v).prefetched = s.prefetched := rfl
@[simp] theorem branchPending_store (s : State) (k : Width) (a v : Word) :
    (s.store k a v).branchPending = s.branchPending := rfl
@[simp] theorem driver_store (s : State) (k : Width) (a v : Word) : (s.store k a v).driver = s.driver := rfl
@[simp] theorem stopRequest_store (s : State) (k : Width) (a v : Word) :
    (s.store k a v).stopRequest = s.stopRequest := rfl
@[simp] theorem irqLine_store (s : State) (k : Width) (a v : Word) : (s.store k a v).irqLine = s.irqLine := rfl
@[simp] theorem haltFlag_store (s : State) (k : Width) (a v : Word) : (s.store k a v).haltFlag = s.haltFlag := rfl
@[simp] theorem haltTask_store (s : State) (k : Width) (a v : Word) : (s.store k a v).haltTask = s.haltTask := rfl
@[simp] theorem mem_store (s : State) (k : Width) (a v : Word) : (s.store k a v).mem = s.mem.write k a v := rfl
@[simp] theorem regions_store (s : State) (k : Width) (a v : Word) : (s.store k a v).regions = s.regions := rfl
@[simp] theorem port_store (s : State) (k : Width) (a v : Word) :
    (s.store k a v).port = .set k a (k.lowBits v) :: s.port := rfl
@[simp] theorem trace_store (s : State) (k : Width) (a v : Word) : (s.store k a v).trace = s.trace := rfl
@[simp] theorem draws_store (s : State) (k : Width) (a v : Word) : (s.store k a v).draws = s.draws := rfl
@[simp] theorem decoded_drew (s : State) (n : Nat) : (s.drew n).decoded = s.decoded := rfl
@[simp] theorem prefetched_drew (s : State) (n : Nat) : (s.drew n).prefetched = s.prefetched := rfl
@[simp] theorem branchPending_drew (s : State) (n : Nat) : (s.drew n).branchPending = s.branchPending := rfl
@[simp] theorem driver_drew (s : State) (n : Nat) : (s.drew n).driver = s.driver := rfl
@[simp] theorem stopRequest_drew (s : State) (n : Nat) : (s.drew n).stopRequest = s.stopRequest := rfl
@[simp] theorem irqLine_drew (s : State) (n : Nat) : (s.drew n).irqLine = s.irqLine := rfl
@[simp] theorem haltFlag_drew (s : State) (n : Nat) : (s.drew n).haltFlag = s.haltFlag := rfl
@[simp] theorem haltTask_drew (s : State) (n : Nat) : (s.drew n).haltTask = s.haltTask := rfl
@[simp] theorem mem_drew (s : State) (n : Nat) : (s.drew n).mem = s.mem := rfl
@[simp] theorem regions_drew (s : State) (n : Nat) : (s.drew n).regions = s.regions := rfl
@[simp] theorem port_drew (s : State) (n : Nat) : (s.drew n).port = s.port := rfl
@[simp] theorem trace_drew (s : State) (n : Nat) : (s.drew n).trace = s.trace := rfl
@[simp] theorem draws_drew (s : State) (n : Nat) : (s.drew n).draws = s.draws + n := rfl
@[simp] theorem decoded_setFlags (s : State) (n z c v : Bool) : (s.setFlags n z c v).decoded = s.decoded := rfl
@[simp] theorem prefetched_setFlags (s : State) (n z c v : Bool) : (s.setFlags n z c v).prefetched = s.prefetched := rfl
@[simp] theorem branchPending_setFlags (s : State) (n z c v : Bool) :
    (s.setFlags n z c v).branchPending = s.branchPending := rfl
@[simp] theorem driver_setFlags (s : State) (n z c v : Bool) : (s.setFlags n z c v).driver = s.driver := rfl
@[simp] theorem stopRequest_setFlags (s : State) (n z c v : Bool) :
    (s.setFlags n z c v).stopRequest = s.stopRequest := rfl
@[simp] theorem irqLine_setFlags (s : State) (n z c v : Bool) : (s.setFlags n z c v).irqLine = s.irqLine := rfl
@[simp] theorem haltFlag_setFlags (s : State) (n z c v : Bool) : (s.setFlags n z c v).haltFlag = s.haltFlag := rfl
@[simp] theorem haltTask_setFlags (s : State) (n z c v : Bool) : (s.setFlags n z c v).haltTask = s.haltTask := rfl
@[simp] theorem mem_setFlags (s : State) (n z c v : Bool) : (s.setFlags n z c v).mem = s.mem := rfl
@[simp] theorem regions_setFlags (s : State) (n z c v : Bool) : (s.setFlags n z c v).regions = s.regions := rfl
@[simp] theorem port_setFlags (s : State) (n z c v : Bool) : (s.setFlags n z c v).port = s.port := rfl
@[simp] theorem trace_setFlags (s : State) (n z c v : Bool) : (s.setFlags n z c v).trace = s.trace := rfl
@[simp] theorem draws_setFlags (s : State) (n z c v : Bool) : (s.setFlags n z c v).draws = s.draws := rfl
@[simp] theorem decoded_setNZCV (s : State) (out : AluOut) : (s.setNZCV out).decoded = s.decoded := rfl
@[simp] theorem prefetched_setNZCV (s : State) (out : AluOut) : (s.setNZCV out).prefetched = s.prefetched := rfl
@[simp] theorem branchPending_setNZCV (s : State) (out : AluOut) :
    (s.setNZCV out).branchPending = s.branchPending := rfl
@[simp] theorem driver_setNZCV (s : State) (out : AluOut) : (s.setNZCV out).driver = s.driver := rfl
@[simp] theorem stopRequest_setNZCV (s : State) (out : AluOut) : (s.setNZCV out).stopRequest = s.stopRequest := rfl
@[simp] theorem irqLine_setNZCV (s : State) (out : AluOut) : (s.setNZCV out).irqLine = s.irqLine := rfl
@[simp] theorem haltFlag_setNZCV (s : State) (out : AluOut) : (s.setNZCV out).haltFlag = s.haltFlag := rfl
@[simp] theorem haltTask_setNZCV (s : State) (out : AluOut) : (s.setNZCV out).haltTask = s.haltTask := rfl
@[simp] theorem mem_setNZCV (s : State) (out : AluOut) : (s.setNZCV out).mem = s.mem := rfl
@[simp] theorem regions_setNZCV (s : State) (out : AluOut) : (s.setNZCV out).regions = s.regions := rfl
@[simp] theorem port_setNZCV (s : State) (out : AluOut) : (s.setNZCV out).port = s.port := rfl
@[simp] theorem trace_setNZCV (s : State) (out : AluOut) : (s.setNZCV out).trace = s.trace := rfl
@[simp] theorem draws_setNZCV (s : State) (out : AluOut) : (s.setNZCV out).draws = s.draws := rfl
@[simp] theorem decoded_setNZC (s : State) (r : Word) (c : Bool) : (s.setNZC r c).decoded = s.decoded := rfl
@[simp] theorem prefetched_setNZC (s : State) (r : Word) (c : Bool) : (s.setNZC r c).prefetched = s.prefetched := rfl
@[simp] theorem branchPending_setNZC (s : State) (r : Word) (c : Bool) :
    (s.setNZC r c).branchPending = s.branchPending := rfl
@[simp] theorem driver_setNZC (s : State) (r : Word) (c : Bool) : (s.setNZC r c).driver = s.driver := rfl
@[simp] theorem stopRequest_setNZC (s : State) (r : Word) (c : Bool) : (s.setNZC r c).stopRequest = s.stopRequest := rfl
@[simp] theorem irqLine_setNZC (s : State) (r : Word) (c : Bool) : (s.setNZC r c).irqLine = s.irqLine := rfl
@[simp] theorem haltFlag_setNZC (s : State) (r : Word) (c : Bool) : (s.setNZC r c).haltFlag = s.haltFlag := rfl
@[simp] theorem haltTask_setNZC (s : State) (r : Word) (c : Bool) : (s.setNZC r c).haltTask = s.haltTask := rfl
@[simp] theorem mem_setNZC (s : State) (r : Word) (c : Bool) : (s.setNZC r c).mem = s.mem := rfl
@[simp] theorem regions_setNZC (s : State) (r : Word) (c : Bool) : (s.setNZC r c).regions = s.regions := rfl
@[simp] theorem port_setNZC (s : State) (r : Word) (c : Bool) : (s.setNZC r c).port = s.port := rfl
@[simp] theorem trace_setNZC (s : State) (r : Word) (c : Bool) : (s.setNZC r c).trace = s.trace := rfl
@[simp] theorem draws_setNZC (s : State) (r : Word) (c : Bool) : (s.setNZC r c).draws = s.draws := rfl
@[simp] theorem decoded_setMode (s : State) (m : Mode) : (s.setMode m).decoded = s.decoded := rfl
@[simp] theorem prefetched_setMode (s : State) (m : Mode) : (s.setMode m).prefetched = s.prefetched := rfl
@[simp] theorem branchPending_setMode (s : State) (m : Mode) : (s.setMode m).branchPending = s.branchPending := rfl
@[simp] theorem driver_setMode (s : State) (m : Mode) : (s.setMode m).driver = s.driver := rfl
@[simp] theorem stopRequest_setMode (s : State) (m : Mode) : (s.setMode m).stopRequest = s.stopRequest := rfl
@[simp] theorem irqLine_setMode (s : State) (m : Mode) : (s.setMode m).irqLine = s.irqLine := rfl
@[simp] theorem haltFlag_setMode (s : State) (m : Mode) : (s.setMode m).haltFlag = s.haltFlag := rfl
@[simp] theorem haltTask_setMode (s : State) (m : Mode) : (s.setMode m).haltTask = s.haltTask := rfl
@[simp] theorem mem_setMode (s : State) (m : Mode) : (s.setMode m).mem = s.mem := rfl
@[simp] theorem regions_setMode (s : State) (m : Mode) : (s.setMode m).regions = s.regions := rfl
@[simp] theorem port_setMode (s : State) (m : Mode) : (s.setMode m).port = s.port := rfl
@[simp] theorem trace_setMode (s : State) (m : Mode) : (s.setMode m).trace = s.trace := rfl
@[simp] theorem draws_setMode (s : State) (m : Mode) : (s.setMode m).draws = s.draws := rfl
@[simp] theorem decoded_setT (s : State) (b : Bool) : (s.setT b).decoded = s.decoded := rfl
@[simp] theorem prefetched_setT (s : State) (b : Bool) : (s.setT b).prefetched = s.prefetched := rfl
@[simp] theorem branchPending_setT (s : State) (b : Bool) : (s.setT b).branchPending = s.branchPending := rfl
@[simp] theorem driver_setT (s : State) (b : Bool) : (s.setT b).driver = s.driver := rfl
@[simp] theorem stopRequest_setT (s : State) (b : Bool) : (s.setT b).stopRequest = s.stopRequest := rfl
@[simp] theorem irqLine_setT (s : State) (b : Bool) : (s.setT b).irqLine = s.irqLine := rfl
@[simp] theorem haltFlag_setT (s : State) (b : Bool) : (s.setT b).haltFlag = s.haltFlag := rfl
@[simp] theorem haltTask_setT (s : State) (b : Bool) : (s.setT b).haltTask = s.haltTask := rfl
@[simp] theorem mem_setT (s : State) (b : Bool) : (s.setT b).mem = s.mem := rfl
@[simp] theorem regions_setT (s : State) (b : Bool) : (s.setT b).regions = s.regions := rfl
@[simp] theorem port_setT (s : State) (b : Bool) : (s.setT b).port = s.port := rfl
@[simp] theorem trace_setT (s : State) (b : Bool) : (s.setT b).trace = s.trace := rfl
@[simp] theorem draws_setT (s : State) (b : Bool) : (s.setT b).draws = s.draws := rfl
@[simp] theorem decoded_setI (s : State) (b : Bool) : (s.setI b).decoded = s.decoded := rfl
@[simp] theorem prefetched_setI (s : State) (b : Bool) : (s.setI b).prefetched = s.prefetched := rfl
@[simp] theorem branchPending_setI (s : State) (b : Bool) : (s.setI b).branchPending = s.branchPending := rfl
@[simp] theorem driver_setI (s : State) (b : Bool) : (s.setI b).driver = s.driver := rfl
@[simp] theorem stopRequest_setI (s : State) (b : Bool) : (s.setI b).stopRequest = s.stopRequest := rfl
@[simp] theorem irqLine_setI (s : State) (b : Bool) : (s.setI b).irqLine = s.irqLine := rfl
@[simp] theorem haltFlag_setI (s : State) (b : Bool) : (s.setI b).haltFlag = s.haltFlag := rfl
@[simp] theorem haltTask_setI (s : State) (b : Bool) : (s.setI b).haltTask = s.haltTask := rfl
@[simp] theorem mem_setI (s : State) (b : Bool) : (s.setI b).mem = s.mem := rfl
@[simp] theorem regions_setI (s : State) (b : Bool) : (s.setI b).regions = s.regions := rfl
@[simp] theorem port_setI (s : State) (b : Bool) : (s.setI b).port = s.port := rfl
@[simp] theorem trace_setI (s : State) (b : Bool) : (s.setI b).trace = s.trace := rfl
@[simp] theorem draws_setI (s : State) (b : Bool) : (s.setI b).draws = s.draws := rfl
@[simp] theorem decoded_setSpsr (s : State) (v : Word) :
    (s.setSpsr v).decoded = s.decoded := by unfold setSpsr; split <;> rfl
@[simp] theorem prefetched_setSpsr (s : State) (v : Word) :
    (s.setSpsr v).prefetched = s.prefetched := by unfold setSpsr; split <;> rfl
@[simp] theorem branchPending_setSpsr (s : State) (v : Word) :
    (s.setSpsr v).branchPending = s.branchPending := by unfold setSpsr; split <;> rfl
@[simp] theorem driver_setSpsr (s : State) (v : Word) :
    (s.setSpsr v).driver = s.driver := by unfold setSpsr; split <;> rfl
@[simp] theorem stopRequest_setSpsr (s : State) (v : Word) :
    (s.setSpsr v).stopRequest = s.stopRequest := by unfold setSpsr; split <;> rfl
@[simp] theorem irqLine_setSpsr (s : State) (v : Word) :
    (s.setSpsr v).irqLine = s.irqLine := by unfold setSpsr; split <;> rfl
@[simp] theorem haltFlag_setSpsr (s : State) (v : Word) :
    (s.setSpsr v).haltFlag = s.haltFlag := by unfold setSpsr; split <;> rfl
@[simp] theorem haltTask_setSpsr (s : State) (v : Word) :
    (s.setSpsr v).haltTask = s.haltTask := by unfold setSpsr; split <;> rfl
@[simp] theorem mem_setSpsr (s : State) (v : Word) : (s.setSpsr v).mem = s.mem := by unfold setSpsr; split <;> rfl
@[simp] theorem regions_setSpsr (s : State) (v : Word) :
    (s.setSpsr v).regions = s.regions := by unfold setSpsr; split <;> rfl
@[simp] theorem port_setSpsr (s : State) (v : Word) : (s.setSpsr v).port = s.port := by unfold setSpsr; split <;> rfl
@[simp] theorem trace_setSpsr (s : State) (v : Word) : (s.setSpsr v).trace = s.trace := by unfold setSpsr; split <;> rfl
@[simp] theorem draws_setSpsr (s : State) (v : Word) : (s.setSpsr v).draws = s.draws := by unfold setSpsr; split <;> rfl
@[simp] theorem decoded_setReg (s : State) (r : Reg) (v : Word) :
    (s.setReg r v).decoded = s.decoded := by unfold setReg; split <;> rfl
@[simp] theorem prefetched_setReg (s : State) (r : Reg) (v : Word) :
    (s.setReg r v).prefetched = s.prefetched := by unfold setReg; split <;> rfl
@[simp] theorem branchPending_setReg (s : State) (r : Reg) (v : Word) :
    (s.setReg r v).branchPending = (s.branchPending || decide (r = 15)) := by
  unfold setReg
  split
  · next h => have : r = 15 := Fin.ext h
              subst this; simp
  · next h => have : ¬r = 15 := fun e => h (by subst e; rfl)
              simp [this]
@[simp] theorem driver_setReg (s : State) (r : Reg) (v : Word) :
    (s.setReg r v).driver = s.driver := by unfold setReg; split <;> rfl
@[simp] theorem stopRequest_setReg (s : State) (r : Reg) (v : Word) :
    (s.setReg r v).stopRequest = s.stopRequest := by unfold setReg; split <;> rfl
@[simp] theorem irqLine_setReg (s : State) (r : Reg) (v : Word) :
    (s.setReg r v).irqLine = s.irqLine := by unfold setReg; split <;> rfl
@[simp] theorem haltFlag_setReg (s : State) (r : Reg) (v : Word) :
    (s.setReg r v).haltFlag = s.haltFlag := by unfold setReg; split <;> rfl
@[simp] theorem haltTask_setReg (s : State) (r : Reg) (v : Word) :
    (s.setReg r v).haltTask = s.haltTask := by unfold setReg; split <;> rfl
@[simp] theorem mem_setReg (s : State) (r : Reg) (v : Word) :
    (s.setReg r v).mem = s.mem := by unfold setReg; split <;> rfl
@[simp] theorem regions_setReg (s : State) (r : Reg) (v : Word) :
    (s.setReg r v).regions = s.regions := by unfold setReg; split <;> rfl
@[simp] theorem port_setReg (s : State) (r : Reg) (v : Word) :
    (s.setReg r v).port = s.port := by unfold setReg; split <;> rfl
@[simp] theorem trace_setReg (s : State) (r : Reg) (v : Word) :
    (s.setReg r v).trace = s.trace := by unfold setReg; split <;> rfl
@[simp] theorem draws_setReg (s : State) (r : Reg) (v : Word) :
    (s.setReg r v).draws = s.draws := by unfold setReg; split <;> rfl
@[simp] theorem decoded_setUserReg (s : State) (r : Reg) (v : Word) :
    (s.setUserReg r v).decoded = s.decoded := by unfold setUserReg; split <;> rfl
@[simp] theorem prefetched_setUserReg (s : State) (r : Reg) (v : Word) :
    (s.setUserReg r v).prefetched = s.prefetched := by unfold setUserReg; split <;> rfl
@[simp] theorem branchPending_setUserReg (s : State) (r : Reg) (v : Word) :
    (s.setUserReg r v).branchPending = (s.branchPending || decide (r = 15)) := by
  unfold setUserReg
  split
  · next h => have : r = 15 := Fin.ext h
              subst this; simp
  · next h => have : ¬r = 15 := fun e => h (by subst e; rfl)
              simp [this]
@[simp] theorem driver_setUserReg (s : State) (r : Reg) (v : Word) :
    (s.setUserReg r v).driver = s.driver := by unfold setUserReg; split <;> rfl
@[simp] theorem stopRequest_setUserReg (s : State) (r : Reg) (v : Word) :
    (s.setUserReg r v).stopRequest = s.stopRequest := by unfold setUserReg; split <;> rfl
@[simp] theorem irqLine_setUserReg (s : State) (r : Reg) (v : Word) :
    (s.setUserReg r v).irqLine = s.irqLine := by unfold setUserReg; split <;> rfl
@[simp] theorem haltFlag_setUserReg (s : State) (r : Reg) (v : Word) :
    (s.setUserReg r v).haltFlag = s.haltFlag := by unfold setUserReg; split <;> rfl
@[simp] theorem haltTask_setUserReg (s : State) (r : Reg) (v : Word) :
    (s.setUserReg r v).haltTask = s.haltTask := by unfold setUserReg; split <;> rfl
@[simp] theorem mem_setUserReg (s : State) (r : Reg) (v : Word) :
    (s.setUserReg r v).mem = s.mem := by unfold setUserReg; split <;> rfl
@[simp] theorem regions_setUserReg (s : State) (r : Reg) (v : Word) :
    (s.setUserReg r v).regions = s.regions := by unfold setUserReg; split <;> rfl
@[simp] theorem port_setUserReg (s : State) (r : Reg) (v : Word) :
    (s.setUserReg r v).port = s.port := by unfold setUserReg; split <;> rfl
@[simp] theorem trace_setUserReg (s : State) (r : Reg) (v : Word) :
    (s.setUserReg r v).trace = s.trace := by unfold setUserReg; split <;> rfl
@[simp] theorem draws_setUserReg (s : State) (r : Reg) (v : Word) :
    (s.setUserReg r v).draws = s.draws := by unfold setUserReg; split <;> rfl
@[simp] theorem decoded_setLow (s : State) (r : LowReg) (v : Word) :
    (s.setLow r v).decoded = s.decoded := decoded_setReg ..
@[simp] theorem prefetched_setLow (s : State) (r : LowReg) (v : Word) :
    (s.setLow r v).prefetched = s.prefetched := prefetched_setReg ..
@[simp] theorem branchPending_setLow (s : State) (r : LowReg) (v : Word) :
    (s.setLow r v).branchPending = s.branchPending := by
  have h : ¬Fin.ofNat 16 r.val = (15 : Reg) := by revert r; decide
  rw [setLow, branchPending_setReg, decide_eq_false h, Bool.or_false]
@[simp] theorem driver_setLow (s : State) (r : LowReg) (v : Word) : (s.setLow r v).driver = s.driver := driver_setReg ..
@[simp] theorem stopRequest_setLow (s : State) (r : LowReg) (v : Word) :
    (s.setLow r v).stopRequest = s.stopRequest := stopRequest_setReg ..
@[simp] theorem irqLine_setLow (s : State) (r : LowReg) (v : Word) :
    (s.setLow r v).irqLine = s.irqLine := irqLine_setReg ..
@[simp] theorem haltFlag_setLow (s : State) (r : LowReg) (v : Word) :
    (s.setLow r v).haltFlag = s.haltFlag := haltFlag_setReg ..
@[simp] theorem haltTask_setLow (s : State) (r : LowReg) (v : Word) :
    (s.setLow r v).haltTask = s.haltTask := haltTask_setReg ..
@[simp] theorem mem_setLow (s : State) (r : LowReg) (v : Word) : (s.setLow r v).mem = s.mem := mem_setReg ..
@[simp] theorem regions_setLow (s : State) (r : LowReg) (v : Word) :
    (s.setLow r v).regions = s.regions := regions_setReg ..
@[simp] theorem port_setLow (s : State) (r : LowReg) (v : Word) : (s.setLow r v).port = s.port := port_setReg ..
@[simp] theorem trace_setLow (s : State) (r : LowReg) (v : Word) : (s.setLow r v).trace = s.trace := trace_setReg ..
@[simp] theorem draws_setLow (s : State) (r : LowReg) (v : Word) : (s.setLow r v).draws = s.draws := draws_setReg ..

/-! ### CPSR and what is read from it -/

@[simp] theorem cpsr_setSlot_of_ne {k : Fin 37} (s : State) (v : Word) (h : (16 : Fin 37) ≠ k) :
    (s.setSlot k v).cpsr = s.cpsr := by simp [cpsr, h]
@[simp] theorem cpsr_setCpsr (s : State) (v : Word) : (s.setCpsr v).cpsr = v := by simp [cpsr]
@[simp] theorem cpsr_writePc (s : State) (v : Word) : (s.writePc v).cpsr = s.cpsr := by
  have h : (16 : Fin 37) ≠ 15 := by decide
  simp [cpsr, h]
@[simp] theorem cpsr_setReg (s : State) (r : Reg) (v : Word) : (s.setReg r v).cpsr = s.cpsr := by
  simp [cpsr, cpsr_ne_regSlot]
@[simp] theorem cpsr_setUserReg (s : State) (r : Reg) (v : Word) : (s.setUserReg r v).cpsr = s.cpsr := by
  simp [cpsr, cpsr_ne_regSlot]
@[simp] theorem cpsr_setLow (s : State) (r : LowReg) (v : Word) : (s.setLow r v).cpsr = s.cpsr := cpsr_setReg ..
@[simp] theorem cpsr_noteRead (s : State) (k : Width) (a : Word) : (s.noteRead k a).cpsr = s.cpsr := rfl
@[simp] theorem cpsr_store (s : State) (k : Width) (a v : Word) : (s.store k a v).cpsr = s.cpsr := rfl
@[simp] theorem cpsr_drew (s : State) (n : Nat) : (s.drew n).cpsr = s.cpsr := rfl
@[simp] theorem cpsr_setFlags (s : State) (n z c v : Bool) : (s.setFlags n z c v).cpsr = withFlags s.cpsr n z c v :=
  cpsr_setCpsr ..
@[simp] theorem cpsr_setSpsr (s : State) (v : Word) : (s.setSpsr v).cpsr = s.cpsr := by
  unfold setSpsr; split
  · next k h => exact cpsr_setSlot_of_ne s v (Ne.symm (spsrSlot_ne_cpsr h))
  · rfl

/-- The bank, the flags and the control bits are read from CPSR alone. -/
theorem bank_congr {s t : State} (h : t.cpsr = s.cpsr) : t.bank = s.bank := by simp [bank, modeBits, h]

@[simp] theorem bank_writePc (s : State) (v : Word) : (s.writePc v).bank = s.bank := bank_congr (by simp)
@[simp] theorem bank_setReg (s : State) (r : Reg) (v : Word) : (s.setReg r v).bank = s.bank := bank_congr (by simp)
@[simp] theorem bank_setUserReg (s : State) (r : Reg) (v : Word) : (s.setUserReg r v).bank = s.bank :=
  bank_congr (by simp)
@[simp] theorem bank_setLow (s : State) (r : LowReg) (v : Word) : (s.setLow r v).bank = s.bank := bank_congr (by simp)
@[simp] theorem bank_noteRead (s : State) (k : Width) (a : Word) : (s.noteRead k a).bank = s.bank := rfl
@[simp] theorem bank_store (s : State) (k : Width) (a v : Word) : (s.store k a v).bank = s.bank := rfl
@[simp] theorem bank_drew (s : State) (n : Nat) : (s.drew n).bank = s.bank := rfl
@[simp] theorem bank_setSpsr (s : State) (v : Word) : (s.setSpsr v).bank = s.bank := bank_congr (by simp)

/-! ### The flag writes (R48) -/

end State

theorem bit_withFlags (w : Word) (n z c v : Bool) (k : Nat) :
    bit (withFlags w n z c v) k =
      if k = 28 then v else if k = 29 then c else if k = 30 then z else if k = 31 then n else bit w k := by
  unfold withFlags
  rw [bit_withBit _ _ _ _ (by omega), bit_withBit _ _ _ _ (by omega), bit_withBit _ _ _ _ (by omega),
    bit_withBit _ _ _ _ (by omega)]

theorem field_withFlags (w : Word) (n z c v : Bool) (lo len : Nat) (h : lo + len ≤ 28) :
    field (withFlags w n z c v) lo len = field w lo len := by
  apply field_ext
  intro k hk
  rw [bit_withFlags, if_neg (by omega), if_neg (by omega), if_neg (by omega), if_neg (by omega)]

namespace State

@[simp] theorem flagN_setFlags (s : State) (n z c v : Bool) : (s.setFlags n z c v).flagN = n := by
  simp [flagN, bit_withFlags]
@[simp] theorem flagZ_setFlags (s : State) (n z c v : Bool) : (s.setFlags n z c v).flagZ = z := by
  simp [flagZ, bit_withFlags]
@[simp] theorem flagC_setFlags (s : State) (n z c v : Bool) : (s.setFlags n z c v).flagC = c := by
  simp [flagC, bit_withFlags]
@[simp] theorem flagV_setFlags (s : State) (n z c v : Bool) : (s.setFlags n z c v).flagV = v := by
  simp [flagV, bit_withFlags]
@[simp] theorem tbit_setFlags (s : State) (n z c v : Bool) : (s.setFlags n z c v).tbit = s.tbit := by
  simp [tbit, bit_withFlags]
@[simp] theorem ibit_setFlags (s : State) (n z c v : Bool) : (s.setFlags n z c v).ibit = s.ibit := by
  simp [ibit, bit_withFlags]
@[simp] theorem modeBits_setFlags (s : State) (n z c v : Bool) : (s.setFlags n z c v).modeBits = s.modeBits := by
  simp [modeBits, field_withFlags]
@[simp] theorem bank_setFlags (s : State) (n z c v : Bool) : (s.setFlags n z c v).bank = s.bank := by
  simp [bank]
@[simp] theorem bank_setNZCV (s : State) (out : AluOut) : (s.setNZCV out).bank = s.bank := bank_setFlags ..
@[simp] theorem bank_setNZC (s : State) (r : Word) (c : Bool) : (s.setNZC r c).bank = s.bank := bank_setFlags ..

theorem slot_setFlags (s : State) (n z c v : Bool) (j : Fin 37) :
    (s.setFlags n z c v).slot j = if j = 16 then withFlags s.cpsr n z c v else s.slot j := slot_setCpsr ..

/-- A register is not a status word, so the flag writes leave it. -/
@[simp] theorem reg_setFlags (s : State) (n z c v : Bool) (r : Reg) : (s.setFlags n z c v).reg r = s.reg r := by
  simp [reg, slot_setFlags, regSlot_ne_cpsr]
@[simp] theorem reg_setNZCV (s : State) (out : AluOut) (r : Reg) : (s.setNZCV out).reg r = s.reg r := reg_setFlags ..
@[simp] theorem reg_setNZC (s : State) (x : Word) (c : Bool) (r : Reg) : (s.setNZC x c).reg r = s.reg r :=
  reg_setFlags ..

@[simp] theorem reg_setReg (s : State) (r q : Reg) (v : Word) :
    (s.setReg r v).reg q = if q = r then v else s.reg q := by
  simp [reg, regSlot_inj]

/-! ### The mode and the control bits -/

@[simp] theorem cpsr_setMode (s : State) (m : Mode) :
    (s.setMode m).cpsr = (s.cpsr &&& ~~~0x1F#32) ||| m.bits.setWidth 32 := cpsr_setCpsr ..

@[simp] theorem modeBits_setMode (s : State) (m : Mode) : (s.setMode m).modeBits = m.bits := by
  unfold modeBits
  rw [cpsr_setMode]
  apply BitVec.eq_of_getLsbD_eq
  intro i hi
  rcases (by omega : i = 0 ∨ i = 1 ∨ i = 2 ∨ i = 3 ∨ i = 4) with rfl | rfl | rfl | rfl | rfl <;> simp [field]

@[simp] theorem bank_setMode (s : State) (m : Mode) : (s.setMode m).bank = m := by simp [bank]

@[simp] theorem cpsr_setT (s : State) (b : Bool) : (s.setT b).cpsr = withBit s.cpsr 5 b := cpsr_setCpsr ..
@[simp] theorem cpsr_setI (s : State) (b : Bool) : (s.setI b).cpsr = withBit s.cpsr 7 b := cpsr_setCpsr ..

@[simp] theorem bank_setT (s : State) (b : Bool) : (s.setT b).bank = s.bank := by
  simp only [bank, modeBits, cpsr_setT, field_withBit s.cpsr 5 b 0 5 (by omega) (Or.inr (by omega))]
@[simp] theorem bank_setI (s : State) (b : Bool) : (s.setI b).bank = s.bank := by
  simp only [bank, modeBits, cpsr_setI, field_withBit s.cpsr 7 b 0 5 (by omega) (Or.inr (by omega))]

end State

end Sys2Proof.Machine
end

