-- ==== Sys2Proof/Laws/Ops.lean ====
section
/-! SUPPORT. What each shared operation can answer: when it gives a next state, and which.  `Plain` sums up an operation
that only writes registers, flags and memory. -/

namespace Sys2Proof.Safety

open Sys2Proof.Machine

/-! ### What no instruction touches -/

theorem SameOutside.refl (s : State) : SameOutside s s := by constructor <;> rfl

theorem SameOutside.trans {s t u : State} (h : SameOutside s t) (g : SameOutside t u) : SameOutside s u where
  decoded := g.decoded.trans h.decoded
  prefetched := g.prefetched.trans h.prefetched
  driver := g.driver.trans h.driver
  stopRequest := g.stopRequest.trans h.stopRequest
  irqLine := g.irqLine.trans h.irqLine
  haltFlag := g.haltFlag.trans h.haltFlag
  haltTask := g.haltTask.trans h.haltTask
  trace := g.trace.trans h.trace
  regions := g.regions.trans h.regions

end Sys2Proof.Safety

namespace Sys2Proof.Machine

open Sys2Proof.Safety

/-! ### Control of a meaning -/

theorem andThen_eq_next {r : Result} {f : State → Result} {t : State} :
    andThen r f = .next t ↔ ∃ u, r = .next u ∧ f u = .next t := by
  cases r <;> simp [andThen]

theorem checked_eq_next {v : Option Reason} {s t : State} {go : Result} :
    checked v s go = .next t ↔ v = none ∧ go = .next t := by
  cases v <;> simp [checked, State.unpredictable]

theorem ifPassed_eq_next {c : Cond} {s t : State} {go : Result} :
    ifPassed c s go = .next t ↔ (s.passed c = true ∧ go = .next t) ∨ (s.passed c = false ∧ t = s) := by
  unfold ifPassed
  cases s.passed c <;> simp [eq_comm (a := s)]

@[simp] theorem firstViolation_nil : firstViolation [] = none := rfl

@[simp] theorem firstViolation_cons (bad : Bool) (r : Reason) (rest : List (Bool × Reason)) :
    firstViolation ((bad, r) :: rest) = if bad then some r else firstViolation rest := rfl

theorem firstViolation_eq_none {l : List (Bool × Reason)} : firstViolation l = none ↔ ∀ p ∈ l, p.1 = false := by
  induction l with
  | nil => simp
  | cons p rest ih => obtain ⟨b, r⟩ := p; cases b <;> simp [ih]

/-! ### Status words -/

theorem copySpsrToCpsr_eq_next {s t : State} :
    copySpsrToCpsr s = .next t ↔ ∃ v, s.spsr = some v ∧ validMode v = true ∧ t = s.setCpsr v := by
  unfold copySpsrToCpsr
  cases s.spsr with
  | none => simp [State.unpredictable]
  | some v => by_cases h : validMode v = true <;> simp [h, eq_comm (b := t)]

theorem acceptCpsr_eq_next {v : Word} {s t : State} :
    acceptCpsr v s = .next t ↔ bit v 5 = s.tbit ∧ validMode v = true ∧ t = s.setCpsr v := by
  unfold acceptCpsr
  by_cases h : bit v 5 = s.tbit
  · by_cases h' : validMode v = true <;> simp [h, h', eq_comm (b := t)]
  · simp [h, State.unpredictable]

theorem writeSpsrByMsr_eq_next {mask : BitVec 4} {val : Word} {s t : State} :
    writeSpsrByMsr mask val s = .next t ↔
      ∃ old, s.spsr = some old ∧ t = s.setSpsr ((old &&& ~~~maskBytes mask) ||| (val &&& maskBytes mask)) := by
  unfold writeSpsrByMsr
  cases s.spsr <;> simp [State.unpredictable, eq_comm (b := t)]

theorem exchange_eq_next {a : Word} {s t : State} :
    exchange a s = .next t ↔
      ¬(bit a 0 = false ∧ bit a 1 = true) ∧ t = (s.setT (bit a 0)).writePc (a &&& 0xFFFFFFFE#32) := by
  unfold exchange
  split
  · next h => simp [State.unpredictable, h]
  · next h => simp [h, eq_comm (b := t)]

theorem spsr_eq_some {s : State} {v : Word} : s.spsr = some v ↔ ∃ k, s.bank.spsrSlot = some k ∧ s.slot k = v := by
  simp [State.spsr]

theorem slot_setSpsr {s : State} {k : Fin 37} (h : s.bank.spsrSlot = some k) (v : Word) (j : Fin 37) :
    (s.setSpsr v).slot j = if j = k then v else s.slot j := by
  simp [State.setSpsr, h]

/-! ### What the port answers (R83, R85) -/

namespace State

/-- In plain memory the port answers the bytes there, whichever call it is. -/
theorem answer_plain {s : State} {k : Width} {a : Word} (h : s.isExternal k a = false) (i : Nat) :
    s.answer i k a = s.mem.read k a := by simp [answer, h]

/-- Elsewhere the oracle answers the call. -/
theorem answer_external {s : State} {k : Width} {a : Word} (h : s.isExternal k a = true) (i : Nat) :
    s.answer i k a = k.lowBits (Config.portAnswer (s.port.length + i)) := by simp [answer, h]

/-- A call made moves the answers on by one. -/
@[simp] theorem answer_noteRead (s : State) (i : Nat) (k l : Width) (a b : Word) :
    (s.noteRead l b).answer i k a = s.answer (i + 1) k a := by
  simp [answer, isExternal, Nat.add_right_comm, Nat.add_assoc]

@[simp] theorem answer_setSlot (s : State) (i : Nat) (j : Fin 37) (v : Word) (k : Width) (a : Word) :
    (s.setSlot j v).answer i k a = s.answer i k a := rfl

end State

/-- An answer has the width of its access (R83). -/
theorem answer_toNat_lt (s : State) (i : Nat) (k : Width) (a : Word) : (s.answer i k a).toNat < 256 ^ k.bytes := by
  have bound : ∀ (m : Memory) (x n : Nat), m.readBytes x n < 256 ^ n := by
    intro m x n
    induction n generalizing x with
    | zero => simp [Memory.readBytes]
    | succ n ih =>
      have hb := (m.byteAt x).isLt
      have := ih (x + 1)
      simp only [Memory.readBytes, Nat.pow_succ]
      omega
  unfold State.answer
  split
  · generalize Config.portAnswer _ = v
    have hv := v.isLt
    cases k <;> simp only [Width.lowBits, Width.bytes, field, BitVec.toNat_setWidth, BitVec.extractLsb'_toNat] <;> omega
  · have h := bound s.mem (k.alignDown a).toNat k.bytes
    exact lt_of_le_of_lt (by simpa [Memory.read] using Nat.mod_le _ _) h

/-! ### Taking an exception (R485) -/

/-- The status word an exception entry leaves. -/
theorem cpsr_enterException (m : Mode) (vector link : Word) (s : State) :
    (enterException m vector link s).cpsr =
      withBit (withBit ((s.cpsr &&& ~~~0x1F#32) ||| m.bits.setWidth 32) 5 false) 7 true := by
  simp [enterException]

/-- Every bit of CPSR after an exception entry. -/
theorem bit_cpsr_enterException (m : Mode) (vector link : Word) (s : State) (k : Nat) :
    bit (enterException m vector link s).cpsr k =
      if k = 7 then true else if k = 5 then false else if k < 5 then bit m.bits k else bit s.cpsr k := by
  rw [cpsr_enterException, bit_withBit _ _ _ _ (by omega), bit_withBit _ _ _ _ (by omega)]
  by_cases h7 : k = 7
  · simp [h7]
  · by_cases h5 : k = 5
    · simp [h5]
    · simp only [h7, h5, if_false]
      by_cases hk : k < 5
      · have : bit (~~~0x1F#32) k = false := by interval_cases k <;> rfl
        rw [bit_or, bit_and, this, if_pos hk]
        simp [bit, show k < 32 by omega]
      · by_cases h32 : k < 32
        · have : bit (~~~0x1F#32) k = true := by interval_cases k <;> rfl
          rw [bit_or, bit_and, this]
          simp [hk, bit, BitVec.getLsbD_setWidth, BitVec.getLsbD_of_ge m.bits k (by omega)]
        · simp [bit, hk, BitVec.getLsbD_of_ge _ k (Nat.not_lt.mp h32)]

@[simp] theorem modeBits_enterException (m : Mode) (vector link : Word) (s : State) :
    (enterException m vector link s).modeBits = m.bits := by
  apply BitVec.eq_of_getLsbD_eq
  intro k hk
  have := bit_cpsr_enterException m vector link s k
  rw [if_neg (by omega), if_neg (by omega), if_pos hk] at this
  simpa [State.modeBits, field, bit, hk] using this

/-- Every slot after an exception entry. -/
theorem slot_enterException {m : Mode} {k : Fin 37} (h : m.spsrSlot = some k) (vector link : Word) (s : State)
    (j : Fin 37) :
    (enterException m vector link s).slot j =
      if j = 15 then vector
      else if j = 16 then withBit (withBit ((s.cpsr &&& ~~~0x1F#32) ||| m.bits.setWidth 32) 5 false) 7 true
      else if j = regSlot m 14 then link
      else if j = k then s.cpsr
      else s.slot j := by
  have hk := spsrSlot_ne_cpsr h
  by_cases h15 : j = 15
  · simp [enterException, h15]
  · by_cases h16 : j = 16
    · subst h16
      rw [if_neg (by decide), if_pos rfl]
      exact cpsr_enterException m vector link s
    · simp [enterException, h15, h16, State.setT, State.setI]
      by_cases h14 : j = regSlot m 14
      · simp [h14]
      · simp only [h14, if_false]
        rw [slot_setSpsr (by simpa using h)]
        simp [State.setMode, h16]

/-! ### Operations that only write registers, flags and memory -/

/-- What an operation does that only writes registers of the current bank or the User bank, flags and memory: the control
bits and every other slot stay, a change of R15 is signalled (R37), the memory keeps its form, nothing else changes. -/
structure Plain (s t : State) : Prop where
  control : ∀ k, k < 28 → bit t.cpsr k = bit s.cpsr k
  others : ∀ k : Fin 37, k ≠ 16 → (∀ r, k ≠ regSlot s.bank r) → (∀ r, k ≠ regSlot .user r) → t.slot k = s.slot k
  pc : t.branchPending = false → s.branchPending = false ∧ t.slot 15 = s.slot 15
  memory : s.mem.wf = true → t.mem.wf = true
  outside : SameOutside s t

namespace Plain

theorem modeBits {s t : State} (h : Plain s t) : t.modeBits = s.modeBits :=
  field_ext fun k hk => by simpa using h.control k (by omega)

theorem bank {s t : State} (h : Plain s t) : t.bank = s.bank := by
  simp only [State.bank, h.modeBits]

theorem tbit {s t : State} (h : Plain s t) : t.tbit = s.tbit := h.control 5 (by omega)

theorem ibit {s t : State} (h : Plain s t) : t.ibit = s.ibit := h.control 7 (by omega)

theorem refl (s : State) : Plain s s :=
  ⟨fun _ _ => rfl, fun _ _ _ _ => rfl, fun h => ⟨h, rfl⟩, id, .refl s⟩

theorem trans {s t u : State} (h : Plain s t) (g : Plain t u) : Plain s u where
  control k hk := (g.control k hk).trans (h.control k hk)
  others k h16 hb hu := (g.others k h16 (by rw [h.bank]; exact hb) hu).trans (h.others k h16 hb hu)
  pc hp := ⟨(h.pc (g.pc hp).1).1, (g.pc hp).2.trans (h.pc (g.pc hp).1).2⟩
  memory hm := g.memory (h.memory hm)
  outside := h.outside.trans g.outside

theorem setReg (s : State) (r : Reg) (v : Word) : Plain s (s.setReg r v) where
  control := by simp
  others k _ hb _ := by simp [hb r]
  pc h := by
    simp at h
    have : (15 : Fin 37) ≠ regSlot s.bank r := fun e => h.2 ((regSlot_eq_pc s.bank r).1 e.symm)
    simp [h, this]
  memory h := by simpa using h
  outside := by constructor <;> simp

theorem setUserReg (s : State) (r : Reg) (v : Word) : Plain s (s.setUserReg r v) where
  control := by simp
  others k _ _ hu := by simp [hu r]
  pc h := by
    simp at h
    have : (15 : Fin 37) ≠ regSlot .user r := fun e => h.2 ((regSlot_eq_pc .user r).1 e.symm)
    simp [h, this]
  memory h := by simpa using h
  outside := by constructor <;> simp

theorem setLow (s : State) (r : LowReg) (v : Word) : Plain s (s.setLow r v) := setReg ..

theorem writePc (s : State) (v : Word) : Plain s (s.writePc v) where
  control := by simp
  others k _ _ hu := by
    have : k ≠ 15 := by simpa using hu 15
    simp [this]
  pc h := by simp at h
  memory h := by simpa using h
  outside := by constructor <;> simp

theorem setFlags (s : State) (n z c v : Bool) : Plain s (s.setFlags n z c v) where
  control k hk := by
    simp only [State.cpsr_setFlags, bit_withFlags]
    rw [if_neg (by omega), if_neg (by omega), if_neg (by omega), if_neg (by omega)]
  others k h16 _ _ := by simp [State.slot_setFlags, h16]
  pc h := ⟨by simpa using h, by simp [State.slot_setFlags]⟩
  memory h := by simpa using h
  outside := by constructor <;> simp

theorem setNZCV (s : State) (out : AluOut) : Plain s (s.setNZCV out) := setFlags ..

theorem setNZC (s : State) (r : Word) (c : Bool) : Plain s (s.setNZC r c) := setFlags ..

theorem noteRead (s : State) (k : Width) (a : Word) : Plain s (s.noteRead k a) where
  control _ _ := rfl
  others _ _ _ _ := rfl
  pc h := ⟨h, rfl⟩
  memory := id
  outside := by constructor <;> rfl

theorem store (s : State) (k : Width) (a v : Word) : Plain s (s.store k a v) where
  control _ _ := rfl
  others _ _ _ _ := rfl
  pc h := ⟨h, rfl⟩
  memory := wf_store k a v
  outside := by constructor <;> rfl

theorem drew (s : State) (n : Nat) : Plain s (s.drew n) where
  control _ _ := rfl
  others _ _ _ _ := rfl
  pc h := ⟨h, rfl⟩
  memory := id
  outside := by constructor <;> rfl

theorem noteReads (s : State) (a : Word) (rs : List Reg) : Plain s (s.noteReads a rs) := by
  induction rs generalizing s a with
  | nil => exact refl s
  | cons r rest ih => exact (noteRead s .word a).trans (ih ..)

theorem storeWords (s : State) (a : Word) (vs : List Word) : Plain s (s.storeWords a vs) := by
  induction vs generalizing s a with
  | nil => exact refl s
  | cons v rest ih => exact (store s .word a v).trans (ih ..)

theorem setRegs (s : State) (ps : List (Reg × Word)) : Plain s (s.setRegs ps) := by
  induction ps generalizing s with
  | nil => exact refl s
  | cons p rest ih => exact (setReg s p.1 p.2).trans (ih _)

theorem setUserRegs (s : State) (ps : List (Reg × Word)) : Plain s (s.setUserRegs ps) := by
  induction ps generalizing s with
  | nil => exact refl s
  | cons p rest ih => exact (setUserReg s p.1 p.2).trans (ih _)

/-- A choice between an operation and nothing. -/
theorem ite {s t : State} (h : Plain s t) (p : Prop) [Decidable p] : Plain s (if p then t else s) := by
  split
  · exact h
  · exact refl s

theorem writeBack (s : State) (acc : Access) (rn : Reg) : Plain s (s.writeBack acc rn) := ite (setReg ..) _

theorem drawBase (b : Bool) (rn : Reg) (s : State) : Plain s (Machine.drawBase b rn s) :=
  ite ((setReg ..).trans (drew ..)) _

end Plain

end Sys2Proof.Machine
end

