-- ==== Sys2Proof/Laws/PerInstr.lean ====
section
/-! SUPPORT. Families of statements about every instruction as syntax, one lemma for each constructor.
`RoundTrip`: a well-formed instruction is what the decoder reads from its own words. -/

namespace Sys2Proof.Laws.RoundTrip

set_option linter.unusedSimpArgs false
set_option Elab.async false

/-- Decoding the words of a well-formed instruction gives it back. -/
def Statement (i : Instr) : Prop := i.wellFormed = true → decode (encode i) = i

theorem andImm (cond : Cond) (sf : Bool) (rn : Reg) (rd : Reg) (rotate : BitVec 4) (imm8 : BitVec 8) :
    Statement (.andImm cond sf rn rd rotate imm8) :=
  fun _ => decodeA_dpImm .and _ _ _ _ _ _ (fun h => absurd h.1 (by decide))

theorem andRegImm (cond : Cond) (sf : Bool) (rn : Reg) (rd : Reg) (amount : BitVec 5) (sh : ShiftType) (rm : Reg) :
    Statement (.andRegImm cond sf rn rd amount sh rm) :=
  fun _ => decodeA_dpRegImm .and _ _ _ _ _ _ _ (fun h => absurd h.1 (by decide))

theorem andRegReg (cond : Cond) (sf : Bool) (rn : Reg) (rd : Reg) (rs : Reg) (sh : ShiftType) (rm : Reg) :
    Statement (.andRegReg cond sf rn rd rs sh rm) :=
  fun _ => decodeA_dpRegReg .and _ _ _ _ _ _ _ (fun h => absurd h.1 (by decide))

theorem eorImm (cond : Cond) (sf : Bool) (rn : Reg) (rd : Reg) (rotate : BitVec 4) (imm8 : BitVec 8) :
    Statement (.eorImm cond sf rn rd rotate imm8) :=
  fun _ => decodeA_dpImm .eor _ _ _ _ _ _ (fun h => absurd h.1 (by decide))

theorem eorRegImm (cond : Cond) (sf : Bool) (rn : Reg) (rd : Reg) (amount : BitVec 5) (sh : ShiftType) (rm : Reg) :
    Statement (.eorRegImm cond sf rn rd amount sh rm) :=
  fun _ => decodeA_dpRegImm .eor _ _ _ _ _ _ _ (fun h => absurd h.1 (by decide))

theorem eorRegReg (cond : Cond) (sf : Bool) (rn : Reg) (rd : Reg) (rs : Reg) (sh : ShiftType) (rm : Reg) :
    Statement (.eorRegReg cond sf rn rd rs sh rm) :=
  fun _ => decodeA_dpRegReg .eor _ _ _ _ _ _ _ (fun h => absurd h.1 (by decide))

theorem subImm (cond : Cond) (sf : Bool) (rn : Reg) (rd : Reg) (rotate : BitVec 4) (imm8 : BitVec 8) :
    Statement (.subImm cond sf rn rd rotate imm8) :=
  fun _ => decodeA_dpImm .sub _ _ _ _ _ _ (fun h => absurd h.1 (by decide))

theorem subRegImm (cond : Cond) (sf : Bool) (rn : Reg) (rd : Reg) (amount : BitVec 5) (sh : ShiftType) (rm : Reg) :
    Statement (.subRegImm cond sf rn rd amount sh rm) :=
  fun _ => decodeA_dpRegImm .sub _ _ _ _ _ _ _ (fun h => absurd h.1 (by decide))

theorem subRegReg (cond : Cond) (sf : Bool) (rn : Reg) (rd : Reg) (rs : Reg) (sh : ShiftType) (rm : Reg) :
    Statement (.subRegReg cond sf rn rd rs sh rm) :=
  fun _ => decodeA_dpRegReg .sub _ _ _ _ _ _ _ (fun h => absurd h.1 (by decide))

theorem rsbImm (cond : Cond) (sf : Bool) (rn : Reg) (rd : Reg) (rotate : BitVec 4) (imm8 : BitVec 8) :
    Statement (.rsbImm cond sf rn rd rotate imm8) :=
  fun _ => decodeA_dpImm .rsb _ _ _ _ _ _ (fun h => absurd h.1 (by decide))

theorem rsbRegImm (cond : Cond) (sf : Bool) (rn : Reg) (rd : Reg) (amount : BitVec 5) (sh : ShiftType) (rm : Reg) :
    Statement (.rsbRegImm cond sf rn rd amount sh rm) :=
  fun _ => decodeA_dpRegImm .rsb _ _ _ _ _ _ _ (fun h => absurd h.1 (by decide))

theorem rsbRegReg (cond : Cond) (sf : Bool) (rn : Reg) (rd : Reg) (rs : Reg) (sh : ShiftType) (rm : Reg) :
    Statement (.rsbRegReg cond sf rn rd rs sh rm) :=
  fun _ => decodeA_dpRegReg .rsb _ _ _ _ _ _ _ (fun h => absurd h.1 (by decide))

theorem addImm (cond : Cond) (sf : Bool) (rn : Reg) (rd : Reg) (rotate : BitVec 4) (imm8 : BitVec 8) :
    Statement (.addImm cond sf rn rd rotate imm8) :=
  fun _ => decodeA_dpImm .add _ _ _ _ _ _ (fun h => absurd h.1 (by decide))

theorem addRegImm (cond : Cond) (sf : Bool) (rn : Reg) (rd : Reg) (amount : BitVec 5) (sh : ShiftType) (rm : Reg) :
    Statement (.addRegImm cond sf rn rd amount sh rm) :=
  fun _ => decodeA_dpRegImm .add _ _ _ _ _ _ _ (fun h => absurd h.1 (by decide))

theorem addRegReg (cond : Cond) (sf : Bool) (rn : Reg) (rd : Reg) (rs : Reg) (sh : ShiftType) (rm : Reg) :
    Statement (.addRegReg cond sf rn rd rs sh rm) :=
  fun _ => decodeA_dpRegReg .add _ _ _ _ _ _ _ (fun h => absurd h.1 (by decide))

theorem adcImm (cond : Cond) (sf : Bool) (rn : Reg) (rd : Reg) (rotate : BitVec 4) (imm8 : BitVec 8) :
    Statement (.adcImm cond sf rn rd rotate imm8) :=
  fun _ => decodeA_dpImm .adc _ _ _ _ _ _ (fun h => absurd h.1 (by decide))

theorem adcRegImm (cond : Cond) (sf : Bool) (rn : Reg) (rd : Reg) (amount : BitVec 5) (sh : ShiftType) (rm : Reg) :
    Statement (.adcRegImm cond sf rn rd amount sh rm) :=
  fun _ => decodeA_dpRegImm .adc _ _ _ _ _ _ _ (fun h => absurd h.1 (by decide))

theorem adcRegReg (cond : Cond) (sf : Bool) (rn : Reg) (rd : Reg) (rs : Reg) (sh : ShiftType) (rm : Reg) :
    Statement (.adcRegReg cond sf rn rd rs sh rm) :=
  fun _ => decodeA_dpRegReg .adc _ _ _ _ _ _ _ (fun h => absurd h.1 (by decide))

theorem sbcImm (cond : Cond) (sf : Bool) (rn : Reg) (rd : Reg) (rotate : BitVec 4) (imm8 : BitVec 8) :
    Statement (.sbcImm cond sf rn rd rotate imm8) :=
  fun _ => decodeA_dpImm .sbc _ _ _ _ _ _ (fun h => absurd h.1 (by decide))

theorem sbcRegImm (cond : Cond) (sf : Bool) (rn : Reg) (rd : Reg) (amount : BitVec 5) (sh : ShiftType) (rm : Reg) :
    Statement (.sbcRegImm cond sf rn rd amount sh rm) :=
  fun _ => decodeA_dpRegImm .sbc _ _ _ _ _ _ _ (fun h => absurd h.1 (by decide))

theorem sbcRegReg (cond : Cond) (sf : Bool) (rn : Reg) (rd : Reg) (rs : Reg) (sh : ShiftType) (rm : Reg) :
    Statement (.sbcRegReg cond sf rn rd rs sh rm) :=
  fun _ => decodeA_dpRegReg .sbc _ _ _ _ _ _ _ (fun h => absurd h.1 (by decide))

theorem rscImm (cond : Cond) (sf : Bool) (rn : Reg) (rd : Reg) (rotate : BitVec 4) (imm8 : BitVec 8) :
    Statement (.rscImm cond sf rn rd rotate imm8) :=
  fun _ => decodeA_dpImm .rsc _ _ _ _ _ _ (fun h => absurd h.1 (by decide))

theorem rscRegImm (cond : Cond) (sf : Bool) (rn : Reg) (rd : Reg) (amount : BitVec 5) (sh : ShiftType) (rm : Reg) :
    Statement (.rscRegImm cond sf rn rd amount sh rm) :=
  fun _ => decodeA_dpRegImm .rsc _ _ _ _ _ _ _ (fun h => absurd h.1 (by decide))

theorem rscRegReg (cond : Cond) (sf : Bool) (rn : Reg) (rd : Reg) (rs : Reg) (sh : ShiftType) (rm : Reg) :
    Statement (.rscRegReg cond sf rn rd rs sh rm) :=
  fun _ => decodeA_dpRegReg .rsc _ _ _ _ _ _ _ (fun h => absurd h.1 (by decide))

theorem tstImm (cond : Cond) (rn : Reg) (rotate : BitVec 4) (imm8 : BitVec 8) :
    Statement (.tstImm cond rn rotate imm8) :=
  fun _ => decodeA_dpImm .tst _ _ _ _ _ _ (by decide)

theorem tstRegImm (cond : Cond) (rn : Reg) (amount : BitVec 5) (sh : ShiftType) (rm : Reg) :
    Statement (.tstRegImm cond rn amount sh rm) :=
  fun _ => decodeA_dpRegImm .tst _ _ _ _ _ _ _ (by decide)

theorem tstRegReg (cond : Cond) (rn : Reg) (rs : Reg) (sh : ShiftType) (rm : Reg) :
    Statement (.tstRegReg cond rn rs sh rm) :=
  fun _ => decodeA_dpRegReg .tst _ _ _ _ _ _ _ (by decide)

theorem teqImm (cond : Cond) (rn : Reg) (rotate : BitVec 4) (imm8 : BitVec 8) :
    Statement (.teqImm cond rn rotate imm8) :=
  fun _ => decodeA_dpImm .teq _ _ _ _ _ _ (by decide)

theorem teqRegImm (cond : Cond) (rn : Reg) (amount : BitVec 5) (sh : ShiftType) (rm : Reg) :
    Statement (.teqRegImm cond rn amount sh rm) :=
  fun _ => decodeA_dpRegImm .teq _ _ _ _ _ _ _ (by decide)

theorem teqRegReg (cond : Cond) (rn : Reg) (rs : Reg) (sh : ShiftType) (rm : Reg) :
    Statement (.teqRegReg cond rn rs sh rm) :=
  fun _ => decodeA_dpRegReg .teq _ _ _ _ _ _ _ (by decide)

theorem cmpImm (cond : Cond) (rn : Reg) (rotate : BitVec 4) (imm8 : BitVec 8) :
    Statement (.cmpImm cond rn rotate imm8) :=
  fun _ => decodeA_dpImm .cmp _ _ _ _ _ _ (by decide)

theorem cmpRegImm (cond : Cond) (rn : Reg) (amount : BitVec 5) (sh : ShiftType) (rm : Reg) :
    Statement (.cmpRegImm cond rn amount sh rm) :=
  fun _ => decodeA_dpRegImm .cmp _ _ _ _ _ _ _ (by decide)

theorem cmpRegReg (cond : Cond) (rn : Reg) (rs : Reg) (sh : ShiftType) (rm : Reg) :
    Statement (.cmpRegReg cond rn rs sh rm) :=
  fun _ => decodeA_dpRegReg .cmp _ _ _ _ _ _ _ (by decide)

theorem cmnImm (cond : Cond) (rn : Reg) (rotate : BitVec 4) (imm8 : BitVec 8) :
    Statement (.cmnImm cond rn rotate imm8) :=
  fun _ => decodeA_dpImm .cmn _ _ _ _ _ _ (by decide)

theorem cmnRegImm (cond : Cond) (rn : Reg) (amount : BitVec 5) (sh : ShiftType) (rm : Reg) :
    Statement (.cmnRegImm cond rn amount sh rm) :=
  fun _ => decodeA_dpRegImm .cmn _ _ _ _ _ _ _ (by decide)

theorem cmnRegReg (cond : Cond) (rn : Reg) (rs : Reg) (sh : ShiftType) (rm : Reg) :
    Statement (.cmnRegReg cond rn rs sh rm) :=
  fun _ => decodeA_dpRegReg .cmn _ _ _ _ _ _ _ (by decide)

theorem orrImm (cond : Cond) (sf : Bool) (rn : Reg) (rd : Reg) (rotate : BitVec 4) (imm8 : BitVec 8) :
    Statement (.orrImm cond sf rn rd rotate imm8) :=
  fun _ => decodeA_dpImm .orr _ _ _ _ _ _ (fun h => absurd h.1 (by decide))

theorem orrRegImm (cond : Cond) (sf : Bool) (rn : Reg) (rd : Reg) (amount : BitVec 5) (sh : ShiftType) (rm : Reg) :
    Statement (.orrRegImm cond sf rn rd amount sh rm) :=
  fun _ => decodeA_dpRegImm .orr _ _ _ _ _ _ _ (fun h => absurd h.1 (by decide))

theorem orrRegReg (cond : Cond) (sf : Bool) (rn : Reg) (rd : Reg) (rs : Reg) (sh : ShiftType) (rm : Reg) :
    Statement (.orrRegReg cond sf rn rd rs sh rm) :=
  fun _ => decodeA_dpRegReg .orr _ _ _ _ _ _ _ (fun h => absurd h.1 (by decide))

theorem movImm (cond : Cond) (sf : Bool) (rd : Reg) (rotate : BitVec 4) (imm8 : BitVec 8) :
    Statement (.movImm cond sf rd rotate imm8) :=
  fun _ => decodeA_dpImm .mov _ _ _ _ _ _ (fun h => absurd h.1 (by decide))

theorem movRegImm (cond : Cond) (sf : Bool) (rd : Reg) (amount : BitVec 5) (sh : ShiftType) (rm : Reg) :
    Statement (.movRegImm cond sf rd amount sh rm) :=
  fun _ => decodeA_dpRegImm .mov _ _ _ _ _ _ _ (fun h => absurd h.1 (by decide))

theorem movRegReg (cond : Cond) (sf : Bool) (rd : Reg) (rs : Reg) (sh : ShiftType) (rm : Reg) :
    Statement (.movRegReg cond sf rd rs sh rm) :=
  fun _ => decodeA_dpRegReg .mov _ _ _ _ _ _ _ (fun h => absurd h.1 (by decide))

theorem bicImm (cond : Cond) (sf : Bool) (rn : Reg) (rd : Reg) (rotate : BitVec 4) (imm8 : BitVec 8) :
    Statement (.bicImm cond sf rn rd rotate imm8) :=
  fun _ => decodeA_dpImm .bic _ _ _ _ _ _ (fun h => absurd h.1 (by decide))

theorem bicRegImm (cond : Cond) (sf : Bool) (rn : Reg) (rd : Reg) (amount : BitVec 5) (sh : ShiftType) (rm : Reg) :
    Statement (.bicRegImm cond sf rn rd amount sh rm) :=
  fun _ => decodeA_dpRegImm .bic _ _ _ _ _ _ _ (fun h => absurd h.1 (by decide))

theorem bicRegReg (cond : Cond) (sf : Bool) (rn : Reg) (rd : Reg) (rs : Reg) (sh : ShiftType) (rm : Reg) :
    Statement (.bicRegReg cond sf rn rd rs sh rm) :=
  fun _ => decodeA_dpRegReg .bic _ _ _ _ _ _ _ (fun h => absurd h.1 (by decide))

theorem mvnImm (cond : Cond) (sf : Bool) (rd : Reg) (rotate : BitVec 4) (imm8 : BitVec 8) :
    Statement (.mvnImm cond sf rd rotate imm8) :=
  fun _ => decodeA_dpImm .mvn _ _ _ _ _ _ (fun h => absurd h.1 (by decide))

theorem mvnRegImm (cond : Cond) (sf : Bool) (rd : Reg) (amount : BitVec 5) (sh : ShiftType) (rm : Reg) :
    Statement (.mvnRegImm cond sf rd amount sh rm) :=
  fun _ => decodeA_dpRegImm .mvn _ _ _ _ _ _ _ (fun h => absurd h.1 (by decide))

theorem mvnRegReg (cond : Cond) (sf : Bool) (rd : Reg) (rs : Reg) (sh : ShiftType) (rm : Reg) :
    Statement (.mvnRegReg cond sf rd rs sh rm) :=
  fun _ => decodeA_dpRegReg .mvn _ _ _ _ _ _ _ (fun h => absurd h.1 (by decide))

theorem mrs (cond : Cond) (psr : Psr) (rd : Reg) :
    Statement (.mrs cond psr rd) := by
  intro _
  simp [decode, encode, decodeA, decodeMiscSpace, field_put, field_put_ne, bit_put_ne, bit_putBit, bit_putBit_ne, field_putBit_ne, put_ofNat, putBit_false, putBit_true,
    field_lit, bit_lit]

theorem msrReg (cond : Cond) (psr : Psr) (mask : BitVec 4) (rm : Reg) :
    Statement (.msrReg cond psr mask rm) := by
  intro _
  simp [decode, encode, decodeA, decodeMiscSpace, field_put, field_put_ne, bit_put_ne, bit_putBit, bit_putBit_ne, field_putBit_ne, put_ofNat, putBit_false, putBit_true,
    field_lit, bit_lit]

theorem msrImm (cond : Cond) (psr : Psr) (mask : BitVec 4) (rotate : BitVec 4) (imm8 : BitVec 8) :
    Statement (.msrImm cond psr mask rotate imm8) := by
  intro _
  simp [decode, encode, decodeA, decodeMiscSpace, field_put, field_put_ne, bit_put_ne, bit_putBit, bit_putBit_ne, field_putBit_ne, put_ofNat, putBit_false, putBit_true,
    field_lit, bit_lit]

theorem mul (cond : Cond) (sf : Bool) (rd : Reg) (rs : Reg) (rm : Reg) :
    Statement (.mul cond sf rd rs rm) :=
  fun _ => decodeA_mul ..

theorem mla (cond : Cond) (sf : Bool) (rd : Reg) (rn : Reg) (rs : Reg) (rm : Reg) :
    Statement (.mla cond sf rd rn rs rm) :=
  fun _ => decodeA_mul ..

theorem umull (cond : Cond) (sf : Bool) (rdHi : Reg) (rdLo : Reg) (rs : Reg) (rm : Reg) :
    Statement (.umull cond sf rdHi rdLo rs rm) :=
  fun _ => decodeA_mull ..

theorem umlal (cond : Cond) (sf : Bool) (rdHi : Reg) (rdLo : Reg) (rs : Reg) (rm : Reg) :
    Statement (.umlal cond sf rdHi rdLo rs rm) :=
  fun _ => decodeA_mull ..

theorem smull (cond : Cond) (sf : Bool) (rdHi : Reg) (rdLo : Reg) (rs : Reg) (rm : Reg) :
    Statement (.smull cond sf rdHi rdLo rs rm) :=
  fun _ => decodeA_mull ..

theorem smlal (cond : Cond) (sf : Bool) (rdHi : Reg) (rdLo : Reg) (rs : Reg) (rm : Reg) :
    Statement (.smlal cond sf rdHi rdLo rs rm) :=
  fun _ => decodeA_mull ..

theorem ldrImmPre (cond : Cond) (up : Bool) (wb : Bool) (rn : Reg) (rd : Reg) (offset : BitVec 12) :
    Statement (.ldrImmPre cond up wb rn rd offset) :=
  fun _ => decodeA_sdtImm ..

theorem ldrImmPost (cond : Cond) (up : Bool) (rn : Reg) (rd : Reg) (offset : BitVec 12) :
    Statement (.ldrImmPost cond up rn rd offset) :=
  fun _ => decodeA_sdtImm ..

theorem ldrRegPre (cond : Cond) (up : Bool) (wb : Bool) (rn : Reg) (rd : Reg) (amount : BitVec 5) (sh : ShiftType) (rm : Reg) :
    Statement (.ldrRegPre cond up wb rn rd amount sh rm) :=
  fun _ => decodeA_sdtReg ..

theorem ldrRegPost (cond : Cond) (up : Bool) (rn : Reg) (rd : Reg) (amount : BitVec 5) (sh : ShiftType) (rm : Reg) :
    Statement (.ldrRegPost cond up rn rd amount sh rm) :=
  fun _ => decodeA_sdtReg ..

theorem strImmPre (cond : Cond) (up : Bool) (wb : Bool) (rn : Reg) (rd : Reg) (offset : BitVec 12) :
    Statement (.strImmPre cond up wb rn rd offset) :=
  fun _ => decodeA_sdtImm ..

theorem strImmPost (cond : Cond) (up : Bool) (rn : Reg) (rd : Reg) (offset : BitVec 12) :
    Statement (.strImmPost cond up rn rd offset) :=
  fun _ => decodeA_sdtImm ..

theorem strRegPre (cond : Cond) (up : Bool) (wb : Bool) (rn : Reg) (rd : Reg) (amount : BitVec 5) (sh : ShiftType) (rm : Reg) :
    Statement (.strRegPre cond up wb rn rd amount sh rm) :=
  fun _ => decodeA_sdtReg ..

theorem strRegPost (cond : Cond) (up : Bool) (rn : Reg) (rd : Reg) (amount : BitVec 5) (sh : ShiftType) (rm : Reg) :
    Statement (.strRegPost cond up rn rd amount sh rm) :=
  fun _ => decodeA_sdtReg ..

theorem ldrbImmPre (cond : Cond) (up : Bool) (wb : Bool) (rn : Reg) (rd : Reg) (offset : BitVec 12) :
    Statement (.ldrbImmPre cond up wb rn rd offset) :=
  fun _ => decodeA_sdtImm ..

theorem ldrbImmPost (cond : Cond) (up : Bool) (rn : Reg) (rd : Reg) (offset : BitVec 12) :
    Statement (.ldrbImmPost cond up rn rd offset) :=
  fun _ => decodeA_sdtImm ..

theorem ldrbRegPre (cond : Cond) (up : Bool) (wb : Bool) (rn : Reg) (rd : Reg) (amount : BitVec 5) (sh : ShiftType) (rm : Reg) :
    Statement (.ldrbRegPre cond up wb rn rd amount sh rm) :=
  fun _ => decodeA_sdtReg ..

theorem ldrbRegPost (cond : Cond) (up : Bool) (rn : Reg) (rd : Reg) (amount : BitVec 5) (sh : ShiftType) (rm : Reg) :
    Statement (.ldrbRegPost cond up rn rd amount sh rm) :=
  fun _ => decodeA_sdtReg ..

theorem strbImmPre (cond : Cond) (up : Bool) (wb : Bool) (rn : Reg) (rd : Reg) (offset : BitVec 12) :
    Statement (.strbImmPre cond up wb rn rd offset) :=
  fun _ => decodeA_sdtImm ..

theorem strbImmPost (cond : Cond) (up : Bool) (rn : Reg) (rd : Reg) (offset : BitVec 12) :
    Statement (.strbImmPost cond up rn rd offset) :=
  fun _ => decodeA_sdtImm ..

theorem strbRegPre (cond : Cond) (up : Bool) (wb : Bool) (rn : Reg) (rd : Reg) (amount : BitVec 5) (sh : ShiftType) (rm : Reg) :
    Statement (.strbRegPre cond up wb rn rd amount sh rm) :=
  fun _ => decodeA_sdtReg ..

theorem strbRegPost (cond : Cond) (up : Bool) (rn : Reg) (rd : Reg) (amount : BitVec 5) (sh : ShiftType) (rm : Reg) :
    Statement (.strbRegPost cond up rn rd amount sh rm) :=
  fun _ => decodeA_sdtReg ..

theorem ldrtImm (cond : Cond) (up : Bool) (rn : Reg) (rd : Reg) (offset : BitVec 12) :
    Statement (.ldrtImm cond up rn rd offset) :=
  fun _ => decodeA_sdtImm ..

theorem ldrtReg (cond : Cond) (up : Bool) (rn : Reg) (rd : Reg) (amount : BitVec 5) (sh : ShiftType) (rm : Reg) :
    Statement (.ldrtReg cond up rn rd amount sh rm) :=
  fun _ => decodeA_sdtReg ..

theorem strtImm (cond : Cond) (up : Bool) (rn : Reg) (rd : Reg) (offset : BitVec 12) :
    Statement (.strtImm cond up rn rd offset) :=
  fun _ => decodeA_sdtImm ..

theorem strtReg (cond : Cond) (up : Bool) (rn : Reg) (rd : Reg) (amount : BitVec 5) (sh : ShiftType) (rm : Reg) :
    Statement (.strtReg cond up rn rd amount sh rm) :=
  fun _ => decodeA_sdtReg ..

theorem ldrbtImm (cond : Cond) (up : Bool) (rn : Reg) (rd : Reg) (offset : BitVec 12) :
    Statement (.ldrbtImm cond up rn rd offset) :=
  fun _ => decodeA_sdtImm ..

theorem ldrbtReg (cond : Cond) (up : Bool) (rn : Reg) (rd : Reg) (amount : BitVec 5) (sh : ShiftType) (rm : Reg) :
    Statement (.ldrbtReg cond up rn rd amount sh rm) :=
  fun _ => decodeA_sdtReg ..

theorem strbtImm (cond : Cond) (up : Bool) (rn : Reg) (rd : Reg) (offset : BitVec 12) :
    Statement (.strbtImm cond up rn rd offset) :=
  fun _ => decodeA_sdtImm ..

theorem strbtReg (cond : Cond) (up : Bool) (rn : Reg) (rd : Reg) (amount : BitVec 5) (sh : ShiftType) (rm : Reg) :
    Statement (.strbtReg cond up rn rd amount sh rm) :=
  fun _ => decodeA_sdtReg ..

theorem strhImm (cond : Cond) (pre : Bool) (up : Bool) (wb : Bool) (rn : Reg) (rd : Reg) (offset : BitVec 8) :
    Statement (.strhImm cond pre up wb rn rd offset) := by
  intro _
  simp [decode, encode, decodeA, decodeMultiplySpace, wordHwImm, wordHwReg, offset8_append, field_put, field_put_ne, bit_put_ne, bit_putBit, bit_putBit_ne, field_putBit_ne, put_ofNat, putBit_false, putBit_true,
    field_lit, bit_lit]

theorem strhReg (cond : Cond) (pre : Bool) (up : Bool) (wb : Bool) (rn : Reg) (rd : Reg) (rm : Reg) :
    Statement (.strhReg cond pre up wb rn rd rm) := by
  intro _
  simp [decode, encode, decodeA, decodeMultiplySpace, wordHwImm, wordHwReg, offset8_append, field_put, field_put_ne, bit_put_ne, bit_putBit, bit_putBit_ne, field_putBit_ne, put_ofNat, putBit_false, putBit_true,
    field_lit, bit_lit]

theorem ldrhImm (cond : Cond) (pre : Bool) (up : Bool) (wb : Bool) (rn : Reg) (rd : Reg) (offset : BitVec 8) :
    Statement (.ldrhImm cond pre up wb rn rd offset) := by
  intro _
  simp [decode, encode, decodeA, decodeMultiplySpace, wordHwImm, wordHwReg, offset8_append, field_put, field_put_ne, bit_put_ne, bit_putBit, bit_putBit_ne, field_putBit_ne, put_ofNat, putBit_false, putBit_true,
    field_lit, bit_lit]

theorem ldrhReg (cond : Cond) (pre : Bool) (up : Bool) (wb : Bool) (rn : Reg) (rd : Reg) (rm : Reg) :
    Statement (.ldrhReg cond pre up wb rn rd rm) := by
  intro _
  simp [decode, encode, decodeA, decodeMultiplySpace, wordHwImm, wordHwReg, offset8_append, field_put, field_put_ne, bit_put_ne, bit_putBit, bit_putBit_ne, field_putBit_ne, put_ofNat, putBit_false, putBit_true,
    field_lit, bit_lit]

theorem ldrsbImm (cond : Cond) (pre : Bool) (up : Bool) (wb : Bool) (rn : Reg) (rd : Reg) (offset : BitVec 8) :
    Statement (.ldrsbImm cond pre up wb rn rd offset) := by
  intro _
  simp [decode, encode, decodeA, decodeMultiplySpace, wordHwImm, wordHwReg, offset8_append, field_put, field_put_ne, bit_put_ne, bit_putBit, bit_putBit_ne, field_putBit_ne, put_ofNat, putBit_false, putBit_true,
    field_lit, bit_lit]

theorem ldrsbReg (cond : Cond) (pre : Bool) (up : Bool) (wb : Bool) (rn : Reg) (rd : Reg) (rm : Reg) :
    Statement (.ldrsbReg cond pre up wb rn rd rm) := by
  intro _
  simp [decode, encode, decodeA, decodeMultiplySpace, wordHwImm, wordHwReg, offset8_append, field_put, field_put_ne, bit_put_ne, bit_putBit, bit_putBit_ne, field_putBit_ne, put_ofNat, putBit_false, putBit_true,
    field_lit, bit_lit]

theorem ldrshImm (cond : Cond) (pre : Bool) (up : Bool) (wb : Bool) (rn : Reg) (rd : Reg) (offset : BitVec 8) :
    Statement (.ldrshImm cond pre up wb rn rd offset) := by
  intro _
  simp [decode, encode, decodeA, decodeMultiplySpace, wordHwImm, wordHwReg, offset8_append, field_put, field_put_ne, bit_put_ne, bit_putBit, bit_putBit_ne, field_putBit_ne, put_ofNat, putBit_false, putBit_true,
    field_lit, bit_lit]

theorem ldrshReg (cond : Cond) (pre : Bool) (up : Bool) (wb : Bool) (rn : Reg) (rd : Reg) (rm : Reg) :
    Statement (.ldrshReg cond pre up wb rn rd rm) := by
  intro _
  simp [decode, encode, decodeA, decodeMultiplySpace, wordHwImm, wordHwReg, offset8_append, field_put, field_put_ne, bit_put_ne, bit_putBit, bit_putBit_ne, field_putBit_ne, put_ofNat, putBit_false, putBit_true,
    field_lit, bit_lit]

theorem ldm (cond : Cond) (pre : Bool) (up : Bool) (sbit : Bool) (wb : Bool) (rn : Reg) (rlist : BitVec 16) :
    Statement (.ldm cond pre up sbit wb rn rlist) := by
  intro _
  simp [decode, encode, decodeA, wordBdt, field_put, field_put_ne, bit_put_ne, bit_putBit, bit_putBit_ne, field_putBit_ne, put_ofNat, putBit_false, putBit_true,
    field_lit, bit_lit]

theorem stm (cond : Cond) (pre : Bool) (up : Bool) (sbit : Bool) (wb : Bool) (rn : Reg) (rlist : BitVec 16) :
    Statement (.stm cond pre up sbit wb rn rlist) := by
  intro _
  simp [decode, encode, decodeA, wordBdt, field_put, field_put_ne, bit_put_ne, bit_putBit, bit_putBit_ne, field_putBit_ne, put_ofNat, putBit_false, putBit_true,
    field_lit, bit_lit]

theorem swp (cond : Cond) (rn : Reg) (rd : Reg) (rm : Reg) :
    Statement (.swp cond rn rd rm) :=
  fun _ => decodeA_swp ..

theorem swpb (cond : Cond) (rn : Reg) (rd : Reg) (rm : Reg) :
    Statement (.swpb cond rn rd rm) :=
  fun _ => decodeA_swp ..

theorem b (cond : Cond) (offset24 : BitVec 24) :
    Statement (.b cond offset24) := by
  intro _
  simp [decode, encode, decodeA, decodeMiscSpace, field_put, field_put_ne, bit_put_ne, bit_putBit, bit_putBit_ne, field_putBit_ne, put_ofNat, putBit_false, putBit_true,
    field_lit, bit_lit]

theorem bl (cond : Cond) (offset24 : BitVec 24) :
    Statement (.bl cond offset24) := by
  intro _
  simp [decode, encode, decodeA, decodeMiscSpace, field_put, field_put_ne, bit_put_ne, bit_putBit, bit_putBit_ne, field_putBit_ne, put_ofNat, putBit_false, putBit_true,
    field_lit, bit_lit]

theorem bx (cond : Cond) (rm : Reg) :
    Statement (.bx cond rm) := by
  intro _
  simp [decode, encode, decodeA, decodeMiscSpace, field_put, field_put_ne, bit_put_ne, bit_putBit, bit_putBit_ne, field_putBit_ne, put_ofNat, putBit_false, putBit_true,
    field_lit, bit_lit]

theorem swi (cond : Cond) (comment : BitVec 24) :
    Statement (.swi cond comment) := by
  intro _
  simp [decode, encode, decodeA, decodeMiscSpace, field_put, field_put_ne, bit_put_ne, bit_putBit, bit_putBit_ne, field_putBit_ne, put_ofNat, putBit_false, putBit_true,
    field_lit, bit_lit]

theorem und (cond : Cond) (hi : BitVec 20) (lo : BitVec 4) :
    Statement (.und cond hi lo) := by
  intro _
  simp [decode, encode, decodeA, wordCpTransfer, wordCpRegister, field_put, field_put_ne, bit_put_ne, bit_putBit, bit_putBit_ne, field_putBit_ne, put_ofNat, putBit_false, putBit_true,
    field_lit, bit_lit]

theorem ldc (cond : Cond) (p : Bool) (u : Bool) (n : Bool) (w : Bool) (rn : Reg) (crd : BitVec 4) (cp : BitVec 4) (offset : BitVec 8) :
    Statement (.ldc cond p u n w rn crd cp offset) := by
  intro _
  simp [decode, encode, decodeA, wordCpTransfer, wordCpRegister, field_put, field_put_ne, bit_put_ne, bit_putBit, bit_putBit_ne, field_putBit_ne, put_ofNat, putBit_false, putBit_true,
    field_lit, bit_lit]

theorem stc (cond : Cond) (p : Bool) (u : Bool) (n : Bool) (w : Bool) (rn : Reg) (crd : BitVec 4) (cp : BitVec 4) (offset : BitVec 8) :
    Statement (.stc cond p u n w rn crd cp offset) := by
  intro _
  simp [decode, encode, decodeA, wordCpTransfer, wordCpRegister, field_put, field_put_ne, bit_put_ne, bit_putBit, bit_putBit_ne, field_putBit_ne, put_ofNat, putBit_false, putBit_true,
    field_lit, bit_lit]

theorem cdp (cond : Cond) (op1 : BitVec 4) (crn : BitVec 4) (crd : BitVec 4) (cp : BitVec 4) (op2 : BitVec 3) (crm : BitVec 4) :
    Statement (.cdp cond op1 crn crd cp op2 crm) := by
  intro _
  simp [decode, encode, decodeA, wordCpTransfer, wordCpRegister, field_put, field_put_ne, bit_put_ne, bit_putBit, bit_putBit_ne, field_putBit_ne, put_ofNat, putBit_false, putBit_true,
    field_lit, bit_lit]

theorem mcr (cond : Cond) (op1 : BitVec 3) (crn : BitVec 4) (rd : Reg) (cp : BitVec 4) (op2 : BitVec 3) (crm : BitVec 4) :
    Statement (.mcr cond op1 crn rd cp op2 crm) := by
  intro _
  simp [decode, encode, decodeA, wordCpTransfer, wordCpRegister, field_put, field_put_ne, bit_put_ne, bit_putBit, bit_putBit_ne, field_putBit_ne, put_ofNat, putBit_false, putBit_true,
    field_lit, bit_lit]

theorem mrc (cond : Cond) (op1 : BitVec 3) (crn : BitVec 4) (rd : Reg) (cp : BitVec 4) (op2 : BitVec 3) (crm : BitVec 4) :
    Statement (.mrc cond op1 crn rd cp op2 crm) := by
  intro _
  simp [decode, encode, decodeA, wordCpTransfer, wordCpRegister, field_put, field_put_ne, bit_put_ne, bit_putBit, bit_putBit_ne, field_putBit_ne, put_ofNat, putBit_false, putBit_true,
    field_lit, bit_lit]

theorem unsupportedMultiply (word : Word) :
    Statement (.unsupportedMultiply word) :=
  fun h => decodeA_reservedMultiply word h

theorem unsupportedSwap (word : Word) :
    Statement (.unsupportedSwap word) :=
  fun h => decodeA_reservedSwap word h

theorem unsupportedHalfwordStore (word : Word) :
    Statement (.unsupportedHalfwordStore word) :=
  fun h => decodeA_reservedHalfwordStore word h

theorem unsupportedMisc (word : Word) :
    Statement (.unsupportedMisc word) :=
  fun h => decodeA_reservedMisc word h

theorem unsupportedImmMisc (word : Word) :
    Statement (.unsupportedImmMisc word) :=
  fun h => decodeA_reservedImmMisc word h

theorem bLslImm (offset5 : BitVec 5) (rs : LowReg) (rd : LowReg) :
    Statement (.bLslImm offset5 rs rd) := by
  intro _
  simp [decode, encode, decodeB, halfFive, decodeShiftAddB, field_put, field_put_ne, bit_put_ne, bit_putBit, bit_putBit_ne, field_putBit_ne, put_ofNat, putBit_false, putBit_true,
    field_lit, bit_lit]

theorem bLsrImm (offset5 : BitVec 5) (rs : LowReg) (rd : LowReg) :
    Statement (.bLsrImm offset5 rs rd) := by
  intro _
  simp [decode, encode, decodeB, halfFive, decodeShiftAddB, field_put, field_put_ne, bit_put_ne, bit_putBit, bit_putBit_ne, field_putBit_ne, put_ofNat, putBit_false, putBit_true,
    field_lit, bit_lit]

theorem bAsrImm (offset5 : BitVec 5) (rs : LowReg) (rd : LowReg) :
    Statement (.bAsrImm offset5 rs rd) := by
  intro _
  simp [decode, encode, decodeB, halfFive, decodeShiftAddB, field_put, field_put_ne, bit_put_ne, bit_putBit, bit_putBit_ne, field_putBit_ne, put_ofNat, putBit_false, putBit_true,
    field_lit, bit_lit]

theorem bAddReg (rn : LowReg) (rs : LowReg) (rd : LowReg) :
    Statement (.bAddReg rn rs rd) := by
  intro _
  simp [decode, encode, decodeB, halfThree, decodeShiftAddB, field_put, field_put_ne, bit_put_ne, bit_putBit, bit_putBit_ne, field_putBit_ne, put_ofNat, putBit_false, putBit_true,
    field_lit, bit_lit]

theorem bSubReg (rn : LowReg) (rs : LowReg) (rd : LowReg) :
    Statement (.bSubReg rn rs rd) := by
  intro _
  simp [decode, encode, decodeB, halfThree, decodeShiftAddB, field_put, field_put_ne, bit_put_ne, bit_putBit, bit_putBit_ne, field_putBit_ne, put_ofNat, putBit_false, putBit_true,
    field_lit, bit_lit]

theorem bAddImm3 (imm3 : BitVec 3) (rs : LowReg) (rd : LowReg) :
    Statement (.bAddImm3 imm3 rs rd) := by
  intro _
  simp [decode, encode, decodeB, halfThree, decodeShiftAddB, field_put, field_put_ne, bit_put_ne, bit_putBit, bit_putBit_ne, field_putBit_ne, put_ofNat, putBit_false, putBit_true,
    field_lit, bit_lit]

theorem bSubImm3 (imm3 : BitVec 3) (rs : LowReg) (rd : LowReg) :
    Statement (.bSubImm3 imm3 rs rd) := by
  intro _
  simp [decode, encode, decodeB, halfThree, decodeShiftAddB, field_put, field_put_ne, bit_put_ne, bit_putBit, bit_putBit_ne, field_putBit_ne, put_ofNat, putBit_false, putBit_true,
    field_lit, bit_lit]

theorem bMovImm8 (rd : LowReg) (imm8 : BitVec 8) :
    Statement (.bMovImm8 rd imm8) := by
  intro _
  simp [decode, encode, decodeB, halfEight, field_put, field_put_ne, bit_put_ne, bit_putBit, bit_putBit_ne, field_putBit_ne, put_ofNat, putBit_false, putBit_true,
    field_lit, bit_lit]

theorem bCmpImm8 (rd : LowReg) (imm8 : BitVec 8) :
    Statement (.bCmpImm8 rd imm8) := by
  intro _
  simp [decode, encode, decodeB, halfEight, field_put, field_put_ne, bit_put_ne, bit_putBit, bit_putBit_ne, field_putBit_ne, put_ofNat, putBit_false, putBit_true,
    field_lit, bit_lit]

theorem bAddImm8 (rd : LowReg) (imm8 : BitVec 8) :
    Statement (.bAddImm8 rd imm8) := by
  intro _
  simp [decode, encode, decodeB, halfEight, field_put, field_put_ne, bit_put_ne, bit_putBit, bit_putBit_ne, field_putBit_ne, put_ofNat, putBit_false, putBit_true,
    field_lit, bit_lit]

theorem bSubImm8 (rd : LowReg) (imm8 : BitVec 8) :
    Statement (.bSubImm8 rd imm8) := by
  intro _
  simp [decode, encode, decodeB, halfEight, field_put, field_put_ne, bit_put_ne, bit_putBit, bit_putBit_ne, field_putBit_ne, put_ofNat, putBit_false, putBit_true,
    field_lit, bit_lit]

theorem bAndAlu (rs : LowReg) (rd : LowReg) :
    Statement (.bAndAlu rs rd) :=
  fun _ => decodeB_alu ..

theorem bEorAlu (rs : LowReg) (rd : LowReg) :
    Statement (.bEorAlu rs rd) :=
  fun _ => decodeB_alu ..

theorem bLslReg (rs : LowReg) (rd : LowReg) :
    Statement (.bLslReg rs rd) :=
  fun _ => decodeB_alu ..

theorem bLsrReg (rs : LowReg) (rd : LowReg) :
    Statement (.bLsrReg rs rd) :=
  fun _ => decodeB_alu ..

theorem bAsrReg (rs : LowReg) (rd : LowReg) :
    Statement (.bAsrReg rs rd) :=
  fun _ => decodeB_alu ..

theorem bAdcAlu (rs : LowReg) (rd : LowReg) :
    Statement (.bAdcAlu rs rd) :=
  fun _ => decodeB_alu ..

theorem bSbcAlu (rs : LowReg) (rd : LowReg) :
    Statement (.bSbcAlu rs rd) :=
  fun _ => decodeB_alu ..

theorem bRorReg (rs : LowReg) (rd : LowReg) :
    Statement (.bRorReg rs rd) :=
  fun _ => decodeB_alu ..

theorem bTstAlu (rs : LowReg) (rd : LowReg) :
    Statement (.bTstAlu rs rd) :=
  fun _ => decodeB_alu ..

theorem bNegAlu (rs : LowReg) (rd : LowReg) :
    Statement (.bNegAlu rs rd) :=
  fun _ => decodeB_alu ..

theorem bCmpAlu (rs : LowReg) (rd : LowReg) :
    Statement (.bCmpAlu rs rd) :=
  fun _ => decodeB_alu ..

theorem bCmnAlu (rs : LowReg) (rd : LowReg) :
    Statement (.bCmnAlu rs rd) :=
  fun _ => decodeB_alu ..

theorem bOrrAlu (rs : LowReg) (rd : LowReg) :
    Statement (.bOrrAlu rs rd) :=
  fun _ => decodeB_alu ..

theorem bMulAlu (rs : LowReg) (rd : LowReg) :
    Statement (.bMulAlu rs rd) :=
  fun _ => decodeB_alu ..

theorem bBicAlu (rs : LowReg) (rd : LowReg) :
    Statement (.bBicAlu rs rd) :=
  fun _ => decodeB_alu ..

theorem bMvnAlu (rs : LowReg) (rd : LowReg) :
    Statement (.bMvnAlu rs rd) :=
  fun _ => decodeB_alu ..

theorem bAddHi (hd : Reg) (hs : Reg) :
    Statement (.bAddHi hd hs) := by
  intro _
  simp [decode, encode, decodeB, halfHi, halfBx, decodeHiB, field_put, field_put_ne, bit_put_ne, bit_putBit, bit_putBit_ne, field_putBit_ne, put_ofNat, putBit_false, putBit_true,
    field_lit, bit_lit]

theorem bCmpHi (hd : Reg) (hs : Reg) :
    Statement (.bCmpHi hd hs) := by
  intro _
  simp [decode, encode, decodeB, halfHi, halfBx, decodeHiB, field_put, field_put_ne, bit_put_ne, bit_putBit, bit_putBit_ne, field_putBit_ne, put_ofNat, putBit_false, putBit_true,
    field_lit, bit_lit]

theorem bMovHi (hd : Reg) (hs : Reg) :
    Statement (.bMovHi hd hs) := by
  intro _
  simp [decode, encode, decodeB, halfHi, halfBx, decodeHiB, field_put, field_put_ne, bit_put_ne, bit_putBit, bit_putBit_ne, field_putBit_ne, put_ofNat, putBit_false, putBit_true,
    field_lit, bit_lit]

theorem bBxHi (h1 : Bool) (hs : Reg) :
    Statement (.bBxHi h1 hs) := by
  intro _
  simp [decode, encode, decodeB, halfHi, halfBx, decodeHiB, field_put, field_put_ne, bit_put_ne, bit_putBit, bit_putBit_ne, field_putBit_ne, put_ofNat, putBit_false, putBit_true,
    field_lit, bit_lit]

theorem bLdrPc (rd : LowReg) (word8 : BitVec 8) :
    Statement (.bLdrPc rd word8) := by
  intro _
  have hop : ∀ x : BitVec 2, ¬(2#2 ||| x = 1#2) := by decide
  simp [decode, encode, halfEight, decodeB, field_put, field_put_ne, bit_put_ne, bit_putBit, bit_putBit_ne, field_putBit_ne, put_ofNat, putBit_false, putBit_true,
    field_lit, bit_lit,
    field_eq_three, hop]

theorem bStrReg (ro : LowReg) (rb : LowReg) (rd : LowReg) :
    Statement (.bStrReg ro rb rd) := by
  intro _
  simp [decode, encode, decodeB, halfThree, decodeRegTransferB, field_put, field_put_ne, bit_put_ne, bit_putBit, bit_putBit_ne, field_putBit_ne, put_ofNat, putBit_false, putBit_true,
    field_lit, bit_lit]

theorem bStrbReg (ro : LowReg) (rb : LowReg) (rd : LowReg) :
    Statement (.bStrbReg ro rb rd) := by
  intro _
  simp [decode, encode, decodeB, halfThree, decodeRegTransferB, field_put, field_put_ne, bit_put_ne, bit_putBit, bit_putBit_ne, field_putBit_ne, put_ofNat, putBit_false, putBit_true,
    field_lit, bit_lit]

theorem bLdrReg (ro : LowReg) (rb : LowReg) (rd : LowReg) :
    Statement (.bLdrReg ro rb rd) := by
  intro _
  simp [decode, encode, decodeB, halfThree, decodeRegTransferB, field_put, field_put_ne, bit_put_ne, bit_putBit, bit_putBit_ne, field_putBit_ne, put_ofNat, putBit_false, putBit_true,
    field_lit, bit_lit]

theorem bLdrbReg (ro : LowReg) (rb : LowReg) (rd : LowReg) :
    Statement (.bLdrbReg ro rb rd) := by
  intro _
  simp [decode, encode, decodeB, halfThree, decodeRegTransferB, field_put, field_put_ne, bit_put_ne, bit_putBit, bit_putBit_ne, field_putBit_ne, put_ofNat, putBit_false, putBit_true,
    field_lit, bit_lit]

theorem bStrhReg (ro : LowReg) (rb : LowReg) (rd : LowReg) :
    Statement (.bStrhReg ro rb rd) := by
  intro _
  simp [decode, encode, decodeB, halfThree, decodeRegTransferB, field_put, field_put_ne, bit_put_ne, bit_putBit, bit_putBit_ne, field_putBit_ne, put_ofNat, putBit_false, putBit_true,
    field_lit, bit_lit]

theorem bLdsbReg (ro : LowReg) (rb : LowReg) (rd : LowReg) :
    Statement (.bLdsbReg ro rb rd) := by
  intro _
  simp [decode, encode, decodeB, halfThree, decodeRegTransferB, field_put, field_put_ne, bit_put_ne, bit_putBit, bit_putBit_ne, field_putBit_ne, put_ofNat, putBit_false, putBit_true,
    field_lit, bit_lit]

theorem bLdrhReg (ro : LowReg) (rb : LowReg) (rd : LowReg) :
    Statement (.bLdrhReg ro rb rd) := by
  intro _
  simp [decode, encode, decodeB, halfThree, decodeRegTransferB, field_put, field_put_ne, bit_put_ne, bit_putBit, bit_putBit_ne, field_putBit_ne, put_ofNat, putBit_false, putBit_true,
    field_lit, bit_lit]

theorem bLdshReg (ro : LowReg) (rb : LowReg) (rd : LowReg) :
    Statement (.bLdshReg ro rb rd) := by
  intro _
  simp [decode, encode, decodeB, halfThree, decodeRegTransferB, field_put, field_put_ne, bit_put_ne, bit_putBit, bit_putBit_ne, field_putBit_ne, put_ofNat, putBit_false, putBit_true,
    field_lit, bit_lit]

theorem bStrImm5 (offset5 : BitVec 5) (rb : LowReg) (rd : LowReg) :
    Statement (.bStrImm5 offset5 rb rd) := by
  intro _
  simp [decode, encode, decodeB, halfFive, field_put, field_put_ne, bit_put_ne, bit_putBit, bit_putBit_ne, field_putBit_ne, put_ofNat, putBit_false, putBit_true,
    field_lit, bit_lit]

theorem bLdrImm5 (offset5 : BitVec 5) (rb : LowReg) (rd : LowReg) :
    Statement (.bLdrImm5 offset5 rb rd) := by
  intro _
  simp [decode, encode, decodeB, halfFive, field_put, field_put_ne, bit_put_ne, bit_putBit, bit_putBit_ne, field_putBit_ne, put_ofNat, putBit_false, putBit_true,
    field_lit, bit_lit]

theorem bStrbImm5 (offset5 : BitVec 5) (rb : LowReg) (rd : LowReg) :
    Statement (.bStrbImm5 offset5 rb rd) := by
  intro _
  simp [decode, encode, decodeB, halfFive, field_put, field_put_ne, bit_put_ne, bit_putBit, bit_putBit_ne, field_putBit_ne, put_ofNat, putBit_false, putBit_true,
    field_lit, bit_lit]

theorem bLdrbImm5 (offset5 : BitVec 5) (rb : LowReg) (rd : LowReg) :
    Statement (.bLdrbImm5 offset5 rb rd) := by
  intro _
  simp [decode, encode, decodeB, halfFive, field_put, field_put_ne, bit_put_ne, bit_putBit, bit_putBit_ne, field_putBit_ne, put_ofNat, putBit_false, putBit_true,
    field_lit, bit_lit]

theorem bStrhImm5 (offset5 : BitVec 5) (rb : LowReg) (rd : LowReg) :
    Statement (.bStrhImm5 offset5 rb rd) := by
  intro _
  simp [decode, encode, decodeB, halfFive, field_put, field_put_ne, bit_put_ne, bit_putBit, bit_putBit_ne, field_putBit_ne, put_ofNat, putBit_false, putBit_true,
    field_lit, bit_lit]

theorem bLdrhImm5 (offset5 : BitVec 5) (rb : LowReg) (rd : LowReg) :
    Statement (.bLdrhImm5 offset5 rb rd) := by
  intro _
  simp [decode, encode, decodeB, halfFive, field_put, field_put_ne, bit_put_ne, bit_putBit, bit_putBit_ne, field_putBit_ne, put_ofNat, putBit_false, putBit_true,
    field_lit, bit_lit]

theorem bStrSp (rd : LowReg) (word8 : BitVec 8) :
    Statement (.bStrSp rd word8) := by
  intro _
  simp [decode, encode, decodeB, halfEight, field_put, field_put_ne, bit_put_ne, bit_putBit, bit_putBit_ne, field_putBit_ne, put_ofNat, putBit_false, putBit_true,
    field_lit, bit_lit]

theorem bLdrSp (rd : LowReg) (word8 : BitVec 8) :
    Statement (.bLdrSp rd word8) := by
  intro _
  simp [decode, encode, decodeB, halfEight, field_put, field_put_ne, bit_put_ne, bit_putBit, bit_putBit_ne, field_putBit_ne, put_ofNat, putBit_false, putBit_true,
    field_lit, bit_lit]

theorem bAddPc (rd : LowReg) (word8 : BitVec 8) :
    Statement (.bAddPc rd word8) := by
  intro _
  simp [decode, encode, decodeB, halfEight, field_put, field_put_ne, bit_put_ne, bit_putBit, bit_putBit_ne, field_putBit_ne, put_ofNat, putBit_false, putBit_true,
    field_lit, bit_lit]

theorem bAddSp (rd : LowReg) (word8 : BitVec 8) :
    Statement (.bAddSp rd word8) := by
  intro _
  simp [decode, encode, decodeB, halfEight, field_put, field_put_ne, bit_put_ne, bit_putBit, bit_putBit_ne, field_putBit_ne, put_ofNat, putBit_false, putBit_true,
    field_lit, bit_lit]

theorem bAddSpImm (sword7 : BitVec 7) :
    Statement (.bAddSpImm sword7) := by
  intro _
  simp [decode, encode, decodeB, field_put, field_put_ne, bit_put_ne, bit_putBit, bit_putBit_ne, field_putBit_ne, put_ofNat, putBit_false, putBit_true,
    field_lit, bit_lit]

theorem bSubSpImm (sword7 : BitVec 7) :
    Statement (.bSubSpImm sword7) := by
  intro _
  simp [decode, encode, decodeB, field_put, field_put_ne, bit_put_ne, bit_putBit, bit_putBit_ne, field_putBit_ne, put_ofNat, putBit_false, putBit_true,
    field_lit, bit_lit]

theorem bPush (r : Bool) (rlist : BitVec 8) :
    Statement (.bPush r rlist) :=
  fun _ => decodeB_pushPop ..

theorem bPop (r : Bool) (rlist : BitVec 8) :
    Statement (.bPop r rlist) :=
  fun _ => decodeB_pushPop ..

theorem bStmia (rb : LowReg) (rlist : BitVec 8) :
    Statement (.bStmia rb rlist) := by
  intro _
  simp [decode, encode, decodeB, halfEight, field_put, field_put_ne, bit_put_ne, bit_putBit, bit_putBit_ne, field_putBit_ne, put_ofNat, putBit_false, putBit_true,
    field_lit, bit_lit]

theorem bLdmia (rb : LowReg) (rlist : BitVec 8) :
    Statement (.bLdmia rb rlist) := by
  intro _
  simp [decode, encode, decodeB, halfEight, field_put, field_put_ne, bit_put_ne, bit_putBit, bit_putBit_ne, field_putBit_ne, put_ofNat, putBit_false, putBit_true,
    field_lit, bit_lit]

theorem bBeq (soffset8 : BitVec 8) :
    Statement (.bBeq soffset8) :=
  fun _ => decodeB_condBranch _ _ (by decide)

theorem bBne (soffset8 : BitVec 8) :
    Statement (.bBne soffset8) :=
  fun _ => decodeB_condBranch _ _ (by decide)

theorem bBcs (soffset8 : BitVec 8) :
    Statement (.bBcs soffset8) :=
  fun _ => decodeB_condBranch _ _ (by decide)

theorem bBcc (soffset8 : BitVec 8) :
    Statement (.bBcc soffset8) :=
  fun _ => decodeB_condBranch _ _ (by decide)

theorem bBmi (soffset8 : BitVec 8) :
    Statement (.bBmi soffset8) :=
  fun _ => decodeB_condBranch _ _ (by decide)

theorem bBpl (soffset8 : BitVec 8) :
    Statement (.bBpl soffset8) :=
  fun _ => decodeB_condBranch _ _ (by decide)

theorem bBvs (soffset8 : BitVec 8) :
    Statement (.bBvs soffset8) :=
  fun _ => decodeB_condBranch _ _ (by decide)

theorem bBvc (soffset8 : BitVec 8) :
    Statement (.bBvc soffset8) :=
  fun _ => decodeB_condBranch _ _ (by decide)

theorem bBhi (soffset8 : BitVec 8) :
    Statement (.bBhi soffset8) :=
  fun _ => decodeB_condBranch _ _ (by decide)

theorem bBls (soffset8 : BitVec 8) :
    Statement (.bBls soffset8) :=
  fun _ => decodeB_condBranch _ _ (by decide)

theorem bBge (soffset8 : BitVec 8) :
    Statement (.bBge soffset8) :=
  fun _ => decodeB_condBranch _ _ (by decide)

theorem bBlt (soffset8 : BitVec 8) :
    Statement (.bBlt soffset8) :=
  fun _ => decodeB_condBranch _ _ (by decide)

theorem bBgt (soffset8 : BitVec 8) :
    Statement (.bBgt soffset8) :=
  fun _ => decodeB_condBranch _ _ (by decide)

theorem bBle (soffset8 : BitVec 8) :
    Statement (.bBle soffset8) :=
  fun _ => decodeB_condBranch _ _ (by decide)

theorem bSwi (value8 : BitVec 8) :
    Statement (.bSwi value8) := by
  intro _
  simp [decode, encode, decodeB, field_put, field_put_ne, bit_put_ne, bit_putBit, bit_putBit_ne, field_putBit_ne, put_ofNat, putBit_false, putBit_true,
    field_lit, bit_lit]

theorem bB (offset11 : BitVec 11) :
    Statement (.bB offset11) := by
  intro _
  simp [decode, encode, decodeB, halfEleven, field_put, field_put_ne, bit_put_ne, bit_putBit, bit_putBit_ne, field_putBit_ne, put_ofNat, putBit_false, putBit_true,
    field_lit, bit_lit]

theorem bBlPrefix (offset11 : BitVec 11) :
    Statement (.bBlPrefix offset11) := by
  intro _
  simp [decode, encode, decodeB, halfEleven, field_put, field_put_ne, bit_put_ne, bit_putBit, bit_putBit_ne, field_putBit_ne, put_ofNat, putBit_false, putBit_true,
    field_lit, bit_lit]

theorem bBlSuffix (offset11 : BitVec 11) :
    Statement (.bBlSuffix offset11) := by
  intro _
  simp [decode, encode, decodeB, halfEleven, field_put, field_put_ne, bit_put_ne, bit_putBit, bit_putBit_ne, field_putBit_ne, put_ofNat, putBit_false, putBit_true,
    field_lit, bit_lit]

theorem bUnd (half : Half) :
    Statement (.bUnd half) :=
  fun h => decodeB_undefined half h

end Sys2Proof.Laws.RoundTrip
end

