-- ==== Sys2Proof/Laws/Step.lean ====
section
/-! SUPPORT. Everything an instruction can do to the state (`exec_does`), and what a step adds around it. -/

namespace Sys2Proof.Machine

open Sys2Proof.Safety

/-- The six ways an instruction can leave the state: it writes registers, flags and memory; it takes an exception; it
writes CPSR (MSR); it writes an SPSR (MSR); it switches the set (BX); it returns from an exception. -/
inductive Does (i : Instr) (s : State) : State → Prop
  | plain {t : State} (h : Plain s t) : Does i s t
  | entered (m : Mode) (vector link : Word) (hi : isTrap i = true) (hm : m = .supervisor ∨ m = .undefined) :
      Does i s (enterException m vector link s)
  | status (v : Word) (ht : bit v 5 = s.tbit) (hv : validMode v = true)
      (hu : s.modeBits = Mode.user.bits → ∀ k, k < 24 → bit v k = bit s.cpsr k) : Does i s (s.setCpsr v)
  | saved (v old : Word) (hi : isMsrSpsr i = true) (h : s.spsr = some old) : Does i s (s.setSpsr v)
  | switched (b : Bool) (a : Word) : Does i s ((s.setT b).writePc a)
  | returned {u t : State} (v a : Word) (h : Plain s u) (hs : s.spsr = some v) (hv : validMode v = true)
      (ht : Plain ((u.setCpsr v).writePc a) t) : Does i s t

/-- Every next state of a result is one the instruction can leave. -/
def DoesAll (i : Instr) (s : State) (r : Result) : Prop := ∀ t, r = .next t → Does i s t

namespace DoesAll

variable {i : Instr} {s : State}

theorem next {t : State} (h : Plain s t) : DoesAll i s (.next t) := by
  rintro _ ⟨⟩; exact .plain h

theorem stop (f : Fault) : DoesAll i s (.fault f) := by
  intro t h; cases h

theorem ifPassed {go : Result} (c : Cond) (h : DoesAll i s go) : DoesAll i s (ifPassed c s go) := by
  intro t ht
  rcases ifPassed_eq_next.1 ht with ⟨-, h'⟩ | ⟨-, rfl⟩
  · exact h t h'
  · exact .plain (.refl _)

theorem checked {go : Result} (v : Option Reason) (h : DoesAll i s go) : DoesAll i s (checked v s go) :=
  fun t ht => h t (checked_eq_next.1 ht).2

/-- A return from an exception after other register writes (R221, R311). -/
theorem copySpsr {u t : State} {a : Word} (h : Plain s u) (hc : copySpsrToCpsr u = .next t)
    (hu : u.spsr = s.spsr) {w : State} (hw : Plain (t.writePc a) w) : Does i s w := by
  obtain ⟨x, hx, hv, rfl⟩ := copySpsrToCpsr_eq_next.1 hc
  exact .returned x a h (hu ▸ hx) hv hw

theorem writeDp (hasRd sf : Bool) (rd : Reg) (out : AluOut) : DoesAll i s (writeDp hasRd sf rd out s) := by
  unfold Machine.writeDp
  split
  · split
    · intro t ht
      obtain ⟨u, hu, h⟩ := andThen_eq_next.1 ht
      cases h
      exact copySpsr (.refl s) hu rfl (.refl _)
    · exact next (.writePc ..)
  · refine next ?_
    have h := Plain.ite (Plain.setReg s rd out.result) (hasRd = true)
    split
    · exact h.trans (.setNZCV ..)
    · exact h

theorem dataProc (op : DpOp) (cond : Cond) (sf : Bool) (rn rd : Reg) (op2 : Shifted) :
    DoesAll i s (dataProc op cond sf rn rd op2 s) := ifPassed _ (writeDp _ _ _ _)

theorem dataProcRegReg (op : DpOp) (cond : Cond) (sf : Bool) (rn rd rs : Reg) (sh : ShiftType) (rm : Reg) :
    DoesAll i s (dataProcRegReg op cond sf rn rd rs sh rm s) := ifPassed _ (checked _ (dataProc _ _ _ _ _ _))

theorem finishMul (sf : Bool) (rd : Reg) (r : Word) : DoesAll i s (finishMul sf rd r s) := by
  refine next ?_
  split
  · exact (Plain.setReg ..).trans ((Plain.setNZC ..).trans (.drew ..))
  · exact .setReg ..

theorem finishMull (sf : Bool) (hi lo : Reg) (p : BitVec 64) : DoesAll i s (finishMull sf hi lo p s) := by
  refine next ?_
  have h := (Plain.setReg s lo (field p 0 32)).trans (.setReg _ hi (field p 32 32))
  split
  · exact h.trans ((Plain.setFlags ..).trans (.drew ..))
  · exact h

theorem loadSingle (k : LoadKind) (acc : Access) (rn rd : Reg) : DoesAll i s (loadSingle k acc rn rd s) :=
  next ((Plain.noteRead ..).trans ((Plain.writeBack ..).trans (.setReg ..)))

theorem storeSingle (k : Width) (acc : Access) (rn : Reg) (data : Word) : DoesAll i s (storeSingle k acc rn data s) :=
  next ((Plain.store ..).trans (.writeBack ..))

theorem sdtLoad (k : LoadKind) (narrow : Bool) (cond : Cond) (pre up wb : Bool) (rn rd : Reg) (off : Option Reg)
    (offset : Word) : DoesAll i s (sdtLoad k narrow cond pre up wb rn rd off offset s) :=
  ifPassed _ (checked _ (loadSingle _ _ _ _))

theorem sdtStore (k : Width) (narrow : Bool) (cond : Cond) (pre up wb : Bool) (rn rd : Reg) (off : Option Reg)
    (offset : Word) : DoesAll i s (sdtStore k narrow cond pre up wb rn rd off offset s) :=
  ifPassed _ (checked _ (storeSingle _ _ _ _))

theorem hwLoad (k : LoadKind) (cond : Cond) (pre up wb : Bool) (rn rd : Reg) (off : Option Reg) (offset : Word) :
    DoesAll i s (hwLoad k cond pre up wb rn rd off offset s) := ifPassed _ (checked _ (loadSingle _ _ _ _))

theorem hwStore (cond : Cond) (pre up wb : Bool) (rn rd : Reg) (off : Option Reg) (offset : Word) :
    DoesAll i s (hwStore cond pre up wb rn rd off offset s) := ifPassed _ (checked _ (storeSingle _ _ _ _))

theorem spsr_of_plain {t : State} (h : Plain s t) : t.spsr = s.spsr := by
  unfold State.spsr
  rw [h.bank]
  cases hk : s.bank.spsrSlot with
  | none => rfl
  | some k =>
    simp only [Option.map_some]
    rw [h.others k (spsrSlot_ne_cpsr hk) (fun r => spsrSlot_ne_regSlot hk _ r) (fun r => spsrSlot_ne_regSlot hk _ r)]

theorem ldm (cond : Cond) (pre up sbit wb : Bool) (rn : Reg) (rlist : BitVec 16) :
    DoesAll i s (execLdm cond pre up sbit wb rn rlist s) := by
  refine ifPassed _ (checked _ ?_)
  intro t ht
  obtain ⟨u, hu, h⟩ := andThen_eq_next.1 ht
  cases h
  set start := blockStart pre up (s.reg rn) (regsA rlist).length
  have hb : Plain s (if wb then (s.noteReads start (regsA rlist)).setReg rn
      (blockFinal up (s.reg rn) (regsA rlist).length) else s.noteReads start (regsA rlist)) :=
    (Plain.noteReads ..).trans (Plain.ite (Plain.setReg ..) _)
  unfold writeLoaded at hu
  split at hu
  · cases hu
    exact .plain (hb.trans ((Plain.setUserRegs ..).trans (.drawBase ..)))
  · dsimp only at hu
    split at hu
    · cases hu
      exact .plain (hb.trans ((Plain.setRegs ..).trans (.drawBase ..)))
    · next p _ =>
      obtain ⟨w, hw, h⟩ := andThen_eq_next.1 hu
      cases h
      split at hw
      · have hp := hb.trans (Plain.setRegs _ (((s.readWords 0 start (regsA rlist))).filter fun p => p.1 != 15))
        exact copySpsr hp hw (spsr_of_plain hp) (.drawBase ..)
      · cases hw
        exact .plain (hb.trans ((Plain.setRegs ..).trans ((Plain.writePc ..).trans (.drawBase ..))))

theorem stm (cond : Cond) (pre up sbit wb : Bool) (rn : Reg) (rlist : BitVec 16) :
    DoesAll i s (execStm cond pre up sbit wb rn rlist s) :=
  ifPassed _ (checked _ (next ((Plain.storeWords ..).trans ((Plain.drew ..).trans (Plain.ite (.setReg ..) _)))))

theorem swap (k : LoadKind) (cond : Cond) (rn rd rm : Reg) : DoesAll i s (swap k cond rn rd rm s) :=
  ifPassed _ (checked _ (next ((Plain.noteRead ..).trans ((Plain.store ..).trans (.setReg ..)))))

theorem exchange (a : Word) : DoesAll i s (exchange a s) := by
  intro t ht
  obtain ⟨-, rfl⟩ := exchange_eq_next.1 ht
  exact .switched ..

theorem raiseSwi (link : Word) (hi : isTrap i = true) : DoesAll i s (raiseSwi link s) := by
  rintro _ ⟨⟩; exact .entered _ _ _ hi (.inl rfl)

theorem raiseUndefined (link : Word) (hi : isTrap i = true) : DoesAll i s (raiseUndefined link s) := by
  rintro _ ⟨⟩; exact .entered _ _ _ hi (.inr rfl)

/-- The flag byte is the byte User mode may write (R241, R506). -/
theorem bit_writableBits_user (mask : BitVec 4) (h : s.modeBits = Mode.user.bits) {k : Nat} (hk : k < 24) :
    bit (s.writableBits mask) k = false := by
  have : bit (0xFF000000#32) k = false := by interval_cases k <;> rfl
  simp [State.writableBits, h, this]

theorem writePsr (psr : Psr) (mask : BitVec 4) (val : Word) (hi : psr = .spsr → isMsrSpsr i = true) :
    DoesAll i s (writePsr psr mask val s) := by
  intro t ht
  cases psr with
  | cpsr =>
    obtain ⟨hT, hv, rfl⟩ := acceptCpsr_eq_next.1 ht
    refine .status _ hT hv fun hu k hk => ?_
    have hb := bit_writableBits_user mask hu hk
    have hn : bit (~~~s.writableBits mask) k = true := by
      rw [bit, BitVec.getLsbD_not]; simp [show k < 32 by omega]; exact hb
    simp only [bit_or, bit_and, hb, hn, Bool.and_true, Bool.and_false, Bool.or_false]
  | spsr =>
    obtain ⟨old, ho, rfl⟩ := writeSpsrByMsr_eq_next.1 ht
    exact .saved _ old (hi rfl) ho

theorem finishLogicalB (rd : LowReg) (r : Word) (c : Bool) : DoesAll i s (finishLogicalB rd r c s) :=
  next ((Plain.setLow ..).trans (.setNZC ..))

theorem finishArithB (rd : LowReg) (out : AluOut) : DoesAll i s (finishArithB rd out s) :=
  next ((Plain.setLow ..).trans (.setNZCV ..))

theorem loadB (k : LoadKind) (addr : Word) (rd : LowReg) : DoesAll i s (loadB k addr rd s) :=
  next ((Plain.noteRead ..).trans (.setLow ..))

theorem storeB (k : Width) (addr : Word) (rd : LowReg) : DoesAll i s (storeB k addr rd s) := next (.store ..)

theorem condBranchB (cond : Cond) (o : BitVec 8) : DoesAll i s (condBranchB cond o s) := ifPassed _ (next (.writePc ..))

theorem push (r : Bool) (rlist : BitVec 8) : DoesAll i s (execBPush r rlist s) :=
  checked _ (next ((Plain.storeWords ..).trans (.setReg ..)))

theorem pop (r : Bool) (rlist : BitVec 8) : DoesAll i s (execBPop r rlist s) :=
  checked _ (next ((Plain.noteReads ..).trans ((Plain.setReg ..).trans (.setRegs ..))))

theorem stmia (rb : LowReg) (rlist : BitVec 8) : DoesAll i s (execBStmia rb rlist s) :=
  checked _ (next ((Plain.storeWords ..).trans ((Plain.drew ..).trans (.setReg ..))))

theorem ldmia (rb : LowReg) (rlist : BitVec 8) : DoesAll i s (execBLdmia rb rlist s) :=
  checked _ (next ((Plain.noteReads ..).trans ((Plain.setReg ..).trans ((Plain.setRegs ..).trans (.drawBase ..)))))

theorem mrs (cond : Cond) (psr : Psr) (rd : Reg) : DoesAll i s (execMrs cond psr rd s) := by
  refine ifPassed _ (checked _ ?_)
  cases s.readPsr psr with
  | none => exact stop _
  | some v => exact next (.setReg ..)

theorem coprocessor (cond : Cond) (hi : isTrap i = true) : DoesAll i s (coprocessor coprocPolicy cond s) :=
  ifPassed _ (raiseUndefined _ hi)

end DoesAll

/-- Everything an instruction can do. -/
theorem exec_does (i : Instr) (s : State) : DoesAll i s (exec i s) :=
  match i with
  | .andImm _ _ _ _ _ _ => .dataProc _ _ _ _ _ _
  | .andRegImm _ _ _ _ _ _ _ => .dataProc _ _ _ _ _ _
  | .andRegReg _ _ _ _ _ _ _ => .dataProcRegReg _ _ _ _ _ _ _ _
  | .eorImm _ _ _ _ _ _ => .dataProc _ _ _ _ _ _
  | .eorRegImm _ _ _ _ _ _ _ => .dataProc _ _ _ _ _ _
  | .eorRegReg _ _ _ _ _ _ _ => .dataProcRegReg _ _ _ _ _ _ _ _
  | .subImm _ _ _ _ _ _ => .dataProc _ _ _ _ _ _
  | .subRegImm _ _ _ _ _ _ _ => .dataProc _ _ _ _ _ _
  | .subRegReg _ _ _ _ _ _ _ => .dataProcRegReg _ _ _ _ _ _ _ _
  | .rsbImm _ _ _ _ _ _ => .dataProc _ _ _ _ _ _
  | .rsbRegImm _ _ _ _ _ _ _ => .dataProc _ _ _ _ _ _
  | .rsbRegReg _ _ _ _ _ _ _ => .dataProcRegReg _ _ _ _ _ _ _ _
  | .addImm _ _ _ _ _ _ => .dataProc _ _ _ _ _ _
  | .addRegImm _ _ _ _ _ _ _ => .dataProc _ _ _ _ _ _
  | .addRegReg _ _ _ _ _ _ _ => .dataProcRegReg _ _ _ _ _ _ _ _
  | .adcImm _ _ _ _ _ _ => .dataProc _ _ _ _ _ _
  | .adcRegImm _ _ _ _ _ _ _ => .dataProc _ _ _ _ _ _
  | .adcRegReg _ _ _ _ _ _ _ => .dataProcRegReg _ _ _ _ _ _ _ _
  | .sbcImm _ _ _ _ _ _ => .dataProc _ _ _ _ _ _
  | .sbcRegImm _ _ _ _ _ _ _ => .dataProc _ _ _ _ _ _
  | .sbcRegReg _ _ _ _ _ _ _ => .dataProcRegReg _ _ _ _ _ _ _ _
  | .rscImm _ _ _ _ _ _ => .dataProc _ _ _ _ _ _
  | .rscRegImm _ _ _ _ _ _ _ => .dataProc _ _ _ _ _ _
  | .rscRegReg _ _ _ _ _ _ _ => .dataProcRegReg _ _ _ _ _ _ _ _
  | .tstImm _ _ _ _ => .dataProc _ _ _ _ _ _
  | .tstRegImm _ _ _ _ _ => .dataProc _ _ _ _ _ _
  | .tstRegReg _ _ _ _ _ => .dataProcRegReg _ _ _ _ _ _ _ _
  | .teqImm _ _ _ _ => .dataProc _ _ _ _ _ _
  | .teqRegImm _ _ _ _ _ => .dataProc _ _ _ _ _ _
  | .teqRegReg _ _ _ _ _ => .dataProcRegReg _ _ _ _ _ _ _ _
  | .cmpImm _ _ _ _ => .dataProc _ _ _ _ _ _
  | .cmpRegImm _ _ _ _ _ => .dataProc _ _ _ _ _ _
  | .cmpRegReg _ _ _ _ _ => .dataProcRegReg _ _ _ _ _ _ _ _
  | .cmnImm _ _ _ _ => .dataProc _ _ _ _ _ _
  | .cmnRegImm _ _ _ _ _ => .dataProc _ _ _ _ _ _
  | .cmnRegReg _ _ _ _ _ => .dataProcRegReg _ _ _ _ _ _ _ _
  | .orrImm _ _ _ _ _ _ => .dataProc _ _ _ _ _ _
  | .orrRegImm _ _ _ _ _ _ _ => .dataProc _ _ _ _ _ _
  | .orrRegReg _ _ _ _ _ _ _ => .dataProcRegReg _ _ _ _ _ _ _ _
  | .movImm _ _ _ _ _ => .dataProc _ _ _ _ _ _
  | .movRegImm _ _ _ _ _ _ => .dataProc _ _ _ _ _ _
  | .movRegReg _ _ _ _ _ _ => .dataProcRegReg _ _ _ _ _ _ _ _
  | .bicImm _ _ _ _ _ _ => .dataProc _ _ _ _ _ _
  | .bicRegImm _ _ _ _ _ _ _ => .dataProc _ _ _ _ _ _
  | .bicRegReg _ _ _ _ _ _ _ => .dataProcRegReg _ _ _ _ _ _ _ _
  | .mvnImm _ _ _ _ _ => .dataProc _ _ _ _ _ _
  | .mvnRegImm _ _ _ _ _ _ => .dataProc _ _ _ _ _ _
  | .mvnRegReg _ _ _ _ _ _ => .dataProcRegReg _ _ _ _ _ _ _ _
  | .mrs _ _ _ => .mrs _ _ _
  | .msrReg _ _ _ _ => .ifPassed _ (.checked _ (.writePsr _ _ _ (fun h => by subst h; rfl)))
  | .msrImm _ _ _ _ _ => .ifPassed _ (.writePsr _ _ _ (fun h => by subst h; rfl))
  | .mul _ _ _ _ _ => .ifPassed _ (.checked _ (.finishMul _ _ _))
  | .mla _ _ _ _ _ _ => .ifPassed _ (.checked _ (.finishMul _ _ _))
  | .umull _ _ _ _ _ _ => .ifPassed _ (.checked _ (.finishMull _ _ _ _))
  | .umlal _ _ _ _ _ _ => .ifPassed _ (.checked _ (.finishMull _ _ _ _))
  | .smull _ _ _ _ _ _ => .ifPassed _ (.checked _ (.finishMull _ _ _ _))
  | .smlal _ _ _ _ _ _ => .ifPassed _ (.checked _ (.finishMull _ _ _ _))
  | .ldrImmPre _ _ _ _ _ _ => .sdtLoad _ _ _ _ _ _ _ _ _ _
  | .ldrImmPost _ _ _ _ _ => .sdtLoad _ _ _ _ _ _ _ _ _ _
  | .ldrRegPre _ _ _ _ _ _ _ _ => .sdtLoad _ _ _ _ _ _ _ _ _ _
  | .ldrRegPost _ _ _ _ _ _ _ => .sdtLoad _ _ _ _ _ _ _ _ _ _
  | .strImmPre _ _ _ _ _ _ => .sdtStore _ _ _ _ _ _ _ _ _ _
  | .strImmPost _ _ _ _ _ => .sdtStore _ _ _ _ _ _ _ _ _ _
  | .strRegPre _ _ _ _ _ _ _ _ => .sdtStore _ _ _ _ _ _ _ _ _ _
  | .strRegPost _ _ _ _ _ _ _ => .sdtStore _ _ _ _ _ _ _ _ _ _
  | .ldrbImmPre _ _ _ _ _ _ => .sdtLoad _ _ _ _ _ _ _ _ _ _
  | .ldrbImmPost _ _ _ _ _ => .sdtLoad _ _ _ _ _ _ _ _ _ _
  | .ldrbRegPre _ _ _ _ _ _ _ _ => .sdtLoad _ _ _ _ _ _ _ _ _ _
  | .ldrbRegPost _ _ _ _ _ _ _ => .sdtLoad _ _ _ _ _ _ _ _ _ _
  | .strbImmPre _ _ _ _ _ _ => .sdtStore _ _ _ _ _ _ _ _ _ _
  | .strbImmPost _ _ _ _ _ => .sdtStore _ _ _ _ _ _ _ _ _ _
  | .strbRegPre _ _ _ _ _ _ _ _ => .sdtStore _ _ _ _ _ _ _ _ _ _
  | .strbRegPost _ _ _ _ _ _ _ => .sdtStore _ _ _ _ _ _ _ _ _ _
  | .ldrtImm _ _ _ _ _ => .sdtLoad _ _ _ _ _ _ _ _ _ _
  | .ldrtReg _ _ _ _ _ _ _ => .sdtLoad _ _ _ _ _ _ _ _ _ _
  | .strtImm _ _ _ _ _ => .sdtStore _ _ _ _ _ _ _ _ _ _
  | .strtReg _ _ _ _ _ _ _ => .sdtStore _ _ _ _ _ _ _ _ _ _
  | .ldrbtImm _ _ _ _ _ => .sdtLoad _ _ _ _ _ _ _ _ _ _
  | .ldrbtReg _ _ _ _ _ _ _ => .sdtLoad _ _ _ _ _ _ _ _ _ _
  | .strbtImm _ _ _ _ _ => .sdtStore _ _ _ _ _ _ _ _ _ _
  | .strbtReg _ _ _ _ _ _ _ => .sdtStore _ _ _ _ _ _ _ _ _ _
  | .strhImm _ _ _ _ _ _ _ => .hwStore _ _ _ _ _ _ _ _
  | .strhReg _ _ _ _ _ _ _ => .hwStore _ _ _ _ _ _ _ _
  | .ldrhImm _ _ _ _ _ _ _ => .hwLoad _ _ _ _ _ _ _ _ _
  | .ldrhReg _ _ _ _ _ _ _ => .hwLoad _ _ _ _ _ _ _ _ _
  | .ldrsbImm _ _ _ _ _ _ _ => .hwLoad _ _ _ _ _ _ _ _ _
  | .ldrsbReg _ _ _ _ _ _ _ => .hwLoad _ _ _ _ _ _ _ _ _
  | .ldrshImm _ _ _ _ _ _ _ => .hwLoad _ _ _ _ _ _ _ _ _
  | .ldrshReg _ _ _ _ _ _ _ => .hwLoad _ _ _ _ _ _ _ _ _
  | .ldm _ _ _ _ _ _ _ => .ldm _ _ _ _ _ _ _
  | .stm _ _ _ _ _ _ _ => .stm _ _ _ _ _ _ _
  | .swp _ _ _ _ => .swap _ _ _ _ _
  | .swpb _ _ _ _ => .swap _ _ _ _ _
  | .b _ _ => .ifPassed _ (.next (.writePc ..))
  | .bl _ _ => .ifPassed _ (.next ((Plain.setReg ..).trans (.writePc ..)))
  | .bx _ _ => .ifPassed _ (.exchange _)
  | .swi _ _ => .ifPassed _ (.raiseSwi _ rfl)
  | .und _ _ _ => .ifPassed _ (.raiseUndefined _ rfl)
  | .ldc _ _ _ _ _ _ _ _ _ => .coprocessor _ rfl
  | .stc _ _ _ _ _ _ _ _ _ => .coprocessor _ rfl
  | .cdp _ _ _ _ _ _ _ => .coprocessor _ rfl
  | .mcr _ _ _ _ _ _ _ => .coprocessor _ rfl
  | .mrc _ _ _ _ _ _ _ => .coprocessor _ rfl
  | .unsupportedMultiply _ => .stop _
  | .unsupportedSwap _ => .stop _
  | .unsupportedHalfwordStore _ => .stop _
  | .unsupportedMisc _ => .stop _
  | .unsupportedImmMisc _ => .stop _
  | .bLslImm _ _ _ => .finishLogicalB _ _ _
  | .bLsrImm _ _ _ => .finishLogicalB _ _ _
  | .bAsrImm _ _ _ => .finishLogicalB _ _ _
  | .bAddReg _ _ _ => .finishArithB _ _
  | .bSubReg _ _ _ => .finishArithB _ _
  | .bAddImm3 _ _ _ => .finishArithB _ _
  | .bSubImm3 _ _ _ => .finishArithB _ _
  | .bMovImm8 _ _ => .finishLogicalB _ _ _
  | .bCmpImm8 _ _ => .next (.setNZCV ..)
  | .bAddImm8 _ _ => .finishArithB _ _
  | .bSubImm8 _ _ => .finishArithB _ _
  | .bAndAlu _ _ => .finishLogicalB _ _ _
  | .bEorAlu _ _ => .finishLogicalB _ _ _
  | .bLslReg _ _ => .finishLogicalB _ _ _
  | .bLsrReg _ _ => .finishLogicalB _ _ _
  | .bAsrReg _ _ => .finishLogicalB _ _ _
  | .bAdcAlu _ _ => .finishArithB _ _
  | .bSbcAlu _ _ => .finishArithB _ _
  | .bRorReg _ _ => .finishLogicalB _ _ _
  | .bTstAlu _ _ => .next (.setNZC ..)
  | .bNegAlu _ _ => .finishArithB _ _
  | .bCmpAlu _ _ => .next (.setNZCV ..)
  | .bCmnAlu _ _ => .next (.setNZCV ..)
  | .bOrrAlu _ _ => .finishLogicalB _ _ _
  | .bMulAlu _ _ => .checked _ (.next ((Plain.setLow ..).trans ((Plain.setNZC ..).trans (.drew ..))))
  | .bBicAlu _ _ => .finishLogicalB _ _ _
  | .bMvnAlu _ _ => .finishLogicalB _ _ _
  | .bAddHi _ _ => .checked _ (.next (.setReg ..))
  | .bCmpHi _ _ => .checked _ (.next (.setNZCV ..))
  | .bMovHi _ _ => .checked _ (.next (.setReg ..))
  | .bBxHi _ _ => .checked _ (.exchange _)
  | .bLdrPc _ _ => .loadB _ _ _
  | .bStrReg _ _ _ => .storeB _ _ _
  | .bStrbReg _ _ _ => .storeB _ _ _
  | .bLdrReg _ _ _ => .loadB _ _ _
  | .bLdrbReg _ _ _ => .loadB _ _ _
  | .bStrhReg _ _ _ => .storeB _ _ _
  | .bLdsbReg _ _ _ => .loadB _ _ _
  | .bLdrhReg _ _ _ => .loadB _ _ _
  | .bLdshReg _ _ _ => .loadB _ _ _
  | .bStrImm5 _ _ _ => .storeB _ _ _
  | .bLdrImm5 _ _ _ => .loadB _ _ _
  | .bStrbImm5 _ _ _ => .storeB _ _ _
  | .bLdrbImm5 _ _ _ => .loadB _ _ _
  | .bStrhImm5 _ _ _ => .storeB _ _ _
  | .bLdrhImm5 _ _ _ => .loadB _ _ _
  | .bStrSp _ _ => .storeB _ _ _
  | .bLdrSp _ _ => .loadB _ _ _
  | .bAddPc _ _ => .next (.setLow ..)
  | .bAddSp _ _ => .next (.setLow ..)
  | .bAddSpImm _ => .next (.setReg ..)
  | .bSubSpImm _ => .next (.setReg ..)
  | .bPush _ _ => .push _ _
  | .bPop _ _ => .pop _ _
  | .bStmia _ _ => .stmia _ _
  | .bLdmia _ _ => .ldmia _ _
  | .bBeq _ => .condBranchB _ _
  | .bBne _ => .condBranchB _ _
  | .bBcs _ => .condBranchB _ _
  | .bBcc _ => .condBranchB _ _
  | .bBmi _ => .condBranchB _ _
  | .bBpl _ => .condBranchB _ _
  | .bBvs _ => .condBranchB _ _
  | .bBvc _ => .condBranchB _ _
  | .bBhi _ => .condBranchB _ _
  | .bBls _ => .condBranchB _ _
  | .bBge _ => .condBranchB _ _
  | .bBlt _ => .condBranchB _ _
  | .bBgt _ => .condBranchB _ _
  | .bBle _ => .condBranchB _ _
  | .bSwi _ => .raiseSwi _ rfl
  | .bB _ => .next (.writePc ..)
  | .bBlPrefix _ => .next (.setReg ..)
  | .bBlSuffix _ => .next ((Plain.writePc ..).trans (.setReg ..))
  | .bUnd _ => .raiseUndefined _ rfl

theorem outside_enterException (m : Mode) (vector link : Word) (s : State) :
    SameOutside s (enterException m vector link s) := by
  constructor <;> simp [enterException]

/-- No instruction touches the pipeline words, the driver, the host's flags or the trace. -/
theorem Does.outside {i : Instr} {s t : State} (h : Does i s t) : SameOutside s t := by
  cases h with
  | plain h => exact h.outside
  | entered m v l _ _ => exact outside_enterException ..
  | status v _ _ _ => constructor <;> simp
  | saved v old _ _ => constructor <;> simp
  | switched b a => constructor <;> simp
  | @returned u _ v a hp _ _ hw =>
    have h1 : SameOutside u ((u.setCpsr v).writePc a) := by constructor <;> simp
    exact (hp.outside.trans h1).trans hw.outside

/-! ### The ends of a tick -/

@[simp] theorem State.slot_refill (s : State) (j : Fin 37) :
    s.refill.slot j = if j = 15 then (s.slot 15 &&& ~~~(s.inc - 1#32)) + 2#32 * s.inc else s.slot j := by
  show (State.setSlot _ 15 _).slot j = _
  simp
@[simp] theorem State.cpsr_refill (s : State) : s.refill.cpsr = s.cpsr := by simp [State.cpsr]
@[simp] theorem State.branchPending_refill (s : State) : s.refill.branchPending = false := rfl
@[simp] theorem State.mem_refill (s : State) : s.refill.mem = s.mem := rfl

@[simp] theorem State.slot_advance (s : State) (j : Fin 37) :
    s.advance.slot j = if j = 15 then s.slot 15 + s.inc else s.slot j := by
  show (State.setSlot _ 15 _).slot j = _
  simp
@[simp] theorem State.cpsr_advance (s : State) : s.advance.cpsr = s.cpsr := by simp [State.cpsr]
@[simp] theorem State.branchPending_advance (s : State) : s.advance.branchPending = s.branchPending := rfl
@[simp] theorem State.mem_advance (s : State) : s.advance.mem = s.mem := rfl

end Sys2Proof.Machine
end

