-- ==== Sys2Proof/Tests/Slice0.lean ====
section
/-! SUPPORT. The model's own tests: ill-formed terms, decoded words, the opcode table, one step of the vectors of
95_test_vectors.md (named V-…, with the end states that file gives), and witnesses that meet the hypotheses of the
statements. -/

namespace Sys2Proof.Tests

open Sys2Proof.Machine Sys2Proof.Safety

set_option Elab.async false

/-! ### Well-formedness: the word must belong to the class the constructor names -/

theorem test_illformed_multiply : (Instr.unsupportedMultiply 0xE0000090#32).wellFormed = false := by decide
theorem test_illformed_swap : (Instr.unsupportedSwap 0xE1000090#32).wellFormed = false := by decide
theorem test_illformed_halfword_store : (Instr.unsupportedHalfwordStore 0xE1C000B0#32).wellFormed = false := by decide
theorem test_illformed_misc : (Instr.unsupportedMisc 0xE12FFF10#32).wellFormed = false := by decide
theorem test_illformed_imm_misc : (Instr.unsupportedImmMisc 0xE3200000#32).wellFormed = false := by decide
theorem test_illformed_setB : (Instr.bUnd 0xE000#16).wellFormed = false := by decide

/-! ### Decoding: for every constructor a word put together from its row of the opcode table and the field places of
R124-R136 and R141-R159, every operand at a value of its own -/

theorem test_decode_and_to_rsb : ∀ p ∈ ([
    (0xE2132CA5#32, .andImm .al true 3 2 0xC#4 0xA5#8),
    (0xE01329C5#32, .andRegImm .al true 3 2 0x13#5 .asr 5),
    (0xE0132455#32, .andRegReg .al true 3 2 4 .asr 5),
    (0xE2332CA5#32, .eorImm .al true 3 2 0xC#4 0xA5#8),
    (0xE03329C5#32, .eorRegImm .al true 3 2 0x13#5 .asr 5),
    (0xE0332455#32, .eorRegReg .al true 3 2 4 .asr 5),
    (0xE2532CA5#32, .subImm .al true 3 2 0xC#4 0xA5#8),
    (0xE05329C5#32, .subRegImm .al true 3 2 0x13#5 .asr 5),
    (0xE0532455#32, .subRegReg .al true 3 2 4 .asr 5),
    (0xE2732CA5#32, .rsbImm .al true 3 2 0xC#4 0xA5#8),
    (0xE07329C5#32, .rsbRegImm .al true 3 2 0x13#5 .asr 5),
    (0xE0732455#32, .rsbRegReg .al true 3 2 4 .asr 5)] : List (BitVec 32 × Instr)),
    decode (.setA p.1) = p.2 := by decide

theorem test_decode_add_to_rsc : ∀ p ∈ ([
    (0xE2932CA5#32, .addImm .al true 3 2 0xC#4 0xA5#8),
    (0xE09329C5#32, .addRegImm .al true 3 2 0x13#5 .asr 5),
    (0xE0932455#32, .addRegReg .al true 3 2 4 .asr 5),
    (0xE2B32CA5#32, .adcImm .al true 3 2 0xC#4 0xA5#8),
    (0xE0B329C5#32, .adcRegImm .al true 3 2 0x13#5 .asr 5),
    (0xE0B32455#32, .adcRegReg .al true 3 2 4 .asr 5),
    (0xE2D32CA5#32, .sbcImm .al true 3 2 0xC#4 0xA5#8),
    (0xE0D329C5#32, .sbcRegImm .al true 3 2 0x13#5 .asr 5),
    (0xE0D32455#32, .sbcRegReg .al true 3 2 4 .asr 5),
    (0xE2F32CA5#32, .rscImm .al true 3 2 0xC#4 0xA5#8),
    (0xE0F329C5#32, .rscRegImm .al true 3 2 0x13#5 .asr 5),
    (0xE0F32455#32, .rscRegReg .al true 3 2 4 .asr 5)] : List (BitVec 32 × Instr)),
    decode (.setA p.1) = p.2 := by decide

theorem test_decode_compare : ∀ p ∈ ([
    (0xE3130CA5#32, .tstImm .al 3 0xC#4 0xA5#8),
    (0xE11309C5#32, .tstRegImm .al 3 0x13#5 .asr 5),
    (0xE1130455#32, .tstRegReg .al 3 4 .asr 5),
    (0xE3330CA5#32, .teqImm .al 3 0xC#4 0xA5#8),
    (0xE13309C5#32, .teqRegImm .al 3 0x13#5 .asr 5),
    (0xE1330455#32, .teqRegReg .al 3 4 .asr 5),
    (0xE3530CA5#32, .cmpImm .al 3 0xC#4 0xA5#8),
    (0xE15309C5#32, .cmpRegImm .al 3 0x13#5 .asr 5),
    (0xE1530455#32, .cmpRegReg .al 3 4 .asr 5),
    (0xE3730CA5#32, .cmnImm .al 3 0xC#4 0xA5#8),
    (0xE17309C5#32, .cmnRegImm .al 3 0x13#5 .asr 5),
    (0xE1730455#32, .cmnRegReg .al 3 4 .asr 5)] : List (BitVec 32 × Instr)),
    decode (.setA p.1) = p.2 := by decide

theorem test_decode_orr_to_mvn : ∀ p ∈ ([
    (0xE3932CA5#32, .orrImm .al true 3 2 0xC#4 0xA5#8),
    (0xE19329C5#32, .orrRegImm .al true 3 2 0x13#5 .asr 5),
    (0xE1932455#32, .orrRegReg .al true 3 2 4 .asr 5),
    (0xE3B02CA5#32, .movImm .al true 2 0xC#4 0xA5#8),
    (0xE1B029C5#32, .movRegImm .al true 2 0x13#5 .asr 5),
    (0xE1B02455#32, .movRegReg .al true 2 4 .asr 5),
    (0xE3D32CA5#32, .bicImm .al true 3 2 0xC#4 0xA5#8),
    (0xE1D329C5#32, .bicRegImm .al true 3 2 0x13#5 .asr 5),
    (0xE1D32455#32, .bicRegReg .al true 3 2 4 .asr 5),
    (0xE3F02CA5#32, .mvnImm .al true 2 0xC#4 0xA5#8),
    (0xE1F029C5#32, .mvnRegImm .al true 2 0x13#5 .asr 5),
    (0xE1F02455#32, .mvnRegReg .al true 2 4 .asr 5)] : List (BitVec 32 × Instr)),
    decode (.setA p.1) = p.2 := by decide

theorem test_decode_psr_multiply : ∀ p ∈ ([
    (0xE1402000#32, .mrs .al .spsr 2),
    (0xE1690005#32, .msrReg .al .spsr 0x9#4 5),
    (0xE3690CA5#32, .msrImm .al .spsr 0x9#4 0xC#4 0xA5#8),
    (0xE0120495#32, .mul .al true 2 4 5),
    (0xE0323495#32, .mla .al true 2 3 4 5),
    (0xE0969495#32, .umull .al true 6 9 4 5),
    (0xE0B69495#32, .umlal .al true 6 9 4 5),
    (0xE0D69495#32, .smull .al true 6 9 4 5),
    (0xE0F69495#32, .smlal .al true 6 9 4 5)] : List (BitVec 32 × Instr)),
    decode (.setA p.1) = p.2 := by decide

theorem test_decode_word : ∀ p ∈ ([
    (0xE5B329A5#32, .ldrImmPre .al true true 3 2 0x9A5#12),
    (0xE49329A5#32, .ldrImmPost .al true 3 2 0x9A5#12),
    (0xE7B329C5#32, .ldrRegPre .al true true 3 2 0x13#5 .asr 5),
    (0xE69329C5#32, .ldrRegPost .al true 3 2 0x13#5 .asr 5),
    (0xE5A329A5#32, .strImmPre .al true true 3 2 0x9A5#12),
    (0xE48329A5#32, .strImmPost .al true 3 2 0x9A5#12),
    (0xE7A329C5#32, .strRegPre .al true true 3 2 0x13#5 .asr 5),
    (0xE68329C5#32, .strRegPost .al true 3 2 0x13#5 .asr 5)] : List (BitVec 32 × Instr)),
    decode (.setA p.1) = p.2 := by decide

theorem test_decode_byte : ∀ p ∈ ([
    (0xE5F329A5#32, .ldrbImmPre .al true true 3 2 0x9A5#12),
    (0xE4D329A5#32, .ldrbImmPost .al true 3 2 0x9A5#12),
    (0xE7F329C5#32, .ldrbRegPre .al true true 3 2 0x13#5 .asr 5),
    (0xE6D329C5#32, .ldrbRegPost .al true 3 2 0x13#5 .asr 5),
    (0xE5E329A5#32, .strbImmPre .al true true 3 2 0x9A5#12),
    (0xE4C329A5#32, .strbImmPost .al true 3 2 0x9A5#12),
    (0xE7E329C5#32, .strbRegPre .al true true 3 2 0x13#5 .asr 5),
    (0xE6C329C5#32, .strbRegPost .al true 3 2 0x13#5 .asr 5)] : List (BitVec 32 × Instr)),
    decode (.setA p.1) = p.2 := by decide

theorem test_decode_user_transfers : ∀ p ∈ ([
    (0xE4B329A5#32, .ldrtImm .al true 3 2 0x9A5#12),
    (0xE6B329C5#32, .ldrtReg .al true 3 2 0x13#5 .asr 5),
    (0xE4A329A5#32, .strtImm .al true 3 2 0x9A5#12),
    (0xE6A329C5#32, .strtReg .al true 3 2 0x13#5 .asr 5),
    (0xE4F329A5#32, .ldrbtImm .al true 3 2 0x9A5#12),
    (0xE6F329C5#32, .ldrbtReg .al true 3 2 0x13#5 .asr 5),
    (0xE4E329A5#32, .strbtImm .al true 3 2 0x9A5#12),
    (0xE6E329C5#32, .strbtReg .al true 3 2 0x13#5 .asr 5)] : List (BitVec 32 × Instr)),
    decode (.setA p.1) = p.2 := by decide

theorem test_decode_halfword : ∀ p ∈ ([
    (0xE1E32CB7#32, .strhImm .al true true true 3 2 0xC7#8),
    (0xE1A320B5#32, .strhReg .al true true true 3 2 5),
    (0xE1F32CB7#32, .ldrhImm .al true true true 3 2 0xC7#8),
    (0xE1B320B5#32, .ldrhReg .al true true true 3 2 5),
    (0xE1F32CD7#32, .ldrsbImm .al true true true 3 2 0xC7#8),
    (0xE1B320D5#32, .ldrsbReg .al true true true 3 2 5),
    (0xE1F32CF7#32, .ldrshImm .al true true true 3 2 0xC7#8),
    (0xE1B320F5#32, .ldrshReg .al true true true 3 2 5)] : List (BitVec 32 × Instr)),
    decode (.setA p.1) = p.2 := by decide

theorem test_decode_block_swap_branch : ∀ p ∈ ([
    (0xE9F38421#32, .ldm .al true true true true 3 0x8421#16),
    (0xE9E38421#32, .stm .al true true true true 3 0x8421#16),
    (0xE1032095#32, .swp .al 3 2 5),
    (0xE1432095#32, .swpb .al 3 2 5),
    (0xEA9ABCDE#32, .b .al 0x9ABCDE#24),
    (0xEB9ABCDE#32, .bl .al 0x9ABCDE#24),
    (0xE1200015#32, .bx .al 5),
    (0xEF9ABCDE#32, .swi .al 0x9ABCDE#24)] : List (BitVec 32 × Instr)),
    decode (.setA p.1) = p.2 := by decide

theorem test_decode_coprocessor_und : ∀ p ∈ ([
    (0xE71E1EB9#32, .und .al 0x8F0F5#20 0x9#4),
    (0xEDF3BDC7#32, .ldc .al true true true true 3 0xB#4 0xD#4 0xC7#8),
    (0xEDE3BDC7#32, .stc .al true true true true 3 0xB#4 0xD#4 0xC7#8),
    (0xEE57BD6E#32, .cdp .al 0x5#4 0x7#4 0xB#4 0xD#4 0x3#3 0xE#4),
    (0xEEA72D7E#32, .mcr .al 0x5#3 0x7#4 2 0xD#4 0x3#3 0xE#4),
    (0xEEB72D7E#32, .mrc .al 0x5#3 0x7#4 2 0xD#4 0x3#3 0xE#4)] : List (BitVec 32 × Instr)),
    decode (.setA p.1) = p.2 := by decide

theorem test_decode_unsupported : ∀ p ∈ ([
    (0xE0400090#32, .unsupportedMultiply 0xE0400090#32),
    (0xE1200090#32, .unsupportedSwap 0xE1200090#32),
    (0xE00000D0#32, .unsupportedHalfwordStore 0xE00000D0#32),
    (0xE1000040#32, .unsupportedMisc 0xE1000040#32),
    (0xE3000000#32, .unsupportedImmMisc 0xE3000000#32)] : List (BitVec 32 × Instr)),
    decode (.setA p.1) = p.2 := by decide

theorem test_decode_setB_immediate : ∀ p ∈ ([
    (0x04E2#16, .bLslImm 0x13#5 4 2),
    (0x0CE2#16, .bLsrImm 0x13#5 4 2),
    (0x14E2#16, .bAsrImm 0x13#5 4 2),
    (0x18E2#16, .bAddReg 3 4 2),
    (0x1AE2#16, .bSubReg 3 4 2),
    (0x1D62#16, .bAddImm3 0x5#3 4 2),
    (0x1F62#16, .bSubImm3 0x5#3 4 2),
    (0x22A5#16, .bMovImm8 2 0xA5#8),
    (0x2AA5#16, .bCmpImm8 2 0xA5#8),
    (0x32A5#16, .bAddImm8 2 0xA5#8),
    (0x3AA5#16, .bSubImm8 2 0xA5#8)] : List (BitVec 16 × Instr)),
    decode (.setB p.1) = p.2 := by decide

theorem test_decode_setB_alu : ∀ p ∈ ([
    (0x4022#16, .bAndAlu 4 2),
    (0x4062#16, .bEorAlu 4 2),
    (0x40A2#16, .bLslReg 4 2),
    (0x40E2#16, .bLsrReg 4 2),
    (0x4122#16, .bAsrReg 4 2),
    (0x4162#16, .bAdcAlu 4 2),
    (0x41A2#16, .bSbcAlu 4 2),
    (0x41E2#16, .bRorReg 4 2),
    (0x4222#16, .bTstAlu 4 2),
    (0x4262#16, .bNegAlu 4 2),
    (0x42A2#16, .bCmpAlu 4 2),
    (0x42E2#16, .bCmnAlu 4 2),
    (0x4322#16, .bOrrAlu 4 2),
    (0x4362#16, .bMulAlu 4 2),
    (0x43A2#16, .bBicAlu 4 2),
    (0x43E2#16, .bMvnAlu 4 2)] : List (BitVec 16 × Instr)),
    decode (.setB p.1) = p.2 := by decide

theorem test_decode_setB_hi : ∀ p ∈ ([
    (0x44E1#16, .bAddHi 9 12),
    (0x45E1#16, .bCmpHi 9 12),
    (0x46E1#16, .bMovHi 9 12),
    (0x47E0#16, .bBxHi true 12)] : List (BitVec 16 × Instr)),
    decode (.setB p.1) = p.2 := by decide

theorem test_decode_setB_transfers : ∀ p ∈ ([
    (0x4AA6#16, .bLdrPc 2 0xA6#8),
    (0x51A2#16, .bStrReg 6 4 2),
    (0x55A2#16, .bStrbReg 6 4 2),
    (0x59A2#16, .bLdrReg 6 4 2),
    (0x5DA2#16, .bLdrbReg 6 4 2),
    (0x53A2#16, .bStrhReg 6 4 2),
    (0x57A2#16, .bLdsbReg 6 4 2),
    (0x5BA2#16, .bLdrhReg 6 4 2),
    (0x5FA2#16, .bLdshReg 6 4 2),
    (0x64E2#16, .bStrImm5 0x13#5 4 2),
    (0x6CE2#16, .bLdrImm5 0x13#5 4 2),
    (0x74E2#16, .bStrbImm5 0x13#5 4 2),
    (0x7CE2#16, .bLdrbImm5 0x13#5 4 2),
    (0x84E2#16, .bStrhImm5 0x13#5 4 2),
    (0x8CE2#16, .bLdrhImm5 0x13#5 4 2),
    (0x92A6#16, .bStrSp 2 0xA6#8),
    (0x9AA6#16, .bLdrSp 2 0xA6#8)] : List (BitVec 16 × Instr)),
    decode (.setB p.1) = p.2 := by decide

theorem test_decode_setB_stack : ∀ p ∈ ([
    (0xA2A6#16, .bAddPc 2 0xA6#8),
    (0xAAA6#16, .bAddSp 2 0xA6#8),
    (0xB059#16, .bAddSpImm 0x59#7),
    (0xB0D9#16, .bSubSpImm 0x59#7),
    (0xB591#16, .bPush true 0x91#8),
    (0xBD91#16, .bPop true 0x91#8),
    (0xC491#16, .bStmia 4 0x91#8),
    (0xCC91#16, .bLdmia 4 0x91#8)] : List (BitVec 16 × Instr)),
    decode (.setB p.1) = p.2 := by decide

theorem test_decode_setB_branches : ∀ p ∈ ([
    (0xD093#16, .bBeq 0x93#8),
    (0xD193#16, .bBne 0x93#8),
    (0xD293#16, .bBcs 0x93#8),
    (0xD393#16, .bBcc 0x93#8),
    (0xD493#16, .bBmi 0x93#8),
    (0xD593#16, .bBpl 0x93#8),
    (0xD693#16, .bBvs 0x93#8),
    (0xD793#16, .bBvc 0x93#8),
    (0xD893#16, .bBhi 0x93#8),
    (0xD993#16, .bBls 0x93#8),
    (0xDA93#16, .bBge 0x93#8),
    (0xDB93#16, .bBlt 0x93#8),
    (0xDC93#16, .bBgt 0x93#8),
    (0xDD93#16, .bBle 0x93#8),
    (0xDF93#16, .bSwi 0x93#8),
    (0xE593#16, .bB 0x593#11),
    (0xF593#16, .bBlPrefix 0x593#11),
    (0xFD93#16, .bBlSuffix 0x593#11),
    (0xE800#16, .bUnd 0xE800#16)] : List (BitVec 16 × Instr)),
    decode (.setB p.1) = p.2 := by decide

/-- R138: a should-be-zero field is not decoded (MRS with bits 11:0 set). -/
theorem test_decode_sbz : decode (.setA 0xE10F0F0F#32) = .mrs .al .cpsr 0 := by decide

/-! ### The opcode table (R120): no word belongs to two rows -/

theorem test_table_A_disjoint : OpcodeTable.rowsA.Pairwise (fun r q => r.disjoint q = true) := by decide
theorem test_table_B_disjoint : OpcodeTable.rowsB.Pairwise (fun r q => r.disjoint q = true) := by decide

/-! ### One step -/

/-- The state of a vector: A = 0x1000, the given CPSR, register slots and memory words. -/
def at1000 (cpsr : Word) (regs : List (Fin 37 × Word)) (words : List (Word × Word)) : State :=
  let s := regs.foldl (fun s p => s.setSlot p.1 p.2) (State.reset.setCpsr cpsr)
  let m := words.foldl (fun (m : Memory) p => m.write .word p.1 p.2) []
  { s.setSlot 15 (0x1000#32 + 2#32 * s.inc) with mem := m }

/-- The outcome is a next state with the property. -/
def leaves (r : Result) (p : State → Bool) : Bool :=
  match r with
  | .next t => p t
  | .fault _ => false
  | .refused _ => false

/-- The state has the given register slots and the given words, halfwords and bytes in memory. -/
def holds (slots : List (Fin 37 × Word)) (data : List (Width × Word × Word)) (t : State) : Bool :=
  slots.all (fun p => t.slot p.1 == p.2) && data.all (fun d => t.mem.read d.1 d.2.1 == d.2.2)

/-- One step from the state with the word at A. -/
def runs (nbits w : Nat) (s : State) (slots : List (Fin 37 × Word)) (data : List (Width × Word × Word)) : Bool :=
  leaves (step (s.withFetchWord nbits w)) (holds slots data)

/-- The step stops. -/
def stops (nbits w : Nat) (s : State) : Bool :=
  match step (s.withFetchWord nbits w) with
  | .next _ => false
  | .fault _ => true
  | .refused _ => false

/-- V-DP-01: `ANDS R0, R1, R2`. -/
theorem test_v_dp_01 : runs 32 0xE0110002 (at1000 0x2000001F#32 [(1, 0xF0F0F0F0#32), (2, 0xFF00FF0#32)] []) [(0, 0xF000F0#32), (16, 0x2000001F#32), (15, 0x100C#32)] [] = true := by
  decide

/-- V-DP-02: `EORS R0, R1, R2`. -/
theorem test_v_dp_02 : runs 32 0xE0310002 (at1000 0x1F#32 [(1, 0x12345678#32), (2, 0x12345678#32)] []) [(0, 0x0#32), (16, 0x4000001F#32), (15, 0x100C#32)] [] = true := by
  decide

/-- V-DP-04: `SUBS R0, R1, #1`. -/
theorem test_v_dp_04 : runs 32 0xE2510001 (at1000 0x1F#32 [(1, 0x80000000#32)] []) [(0, 0x7FFFFFFF#32), (16, 0x3000001F#32), (15, 0x100C#32)] [] = true := by
  decide

/-- V-DP-05: `RSBS R0, R1, #0`. -/
theorem test_v_dp_05 : runs 32 0xE2710000 (at1000 0x1F#32 [(1, 0x1#32)] []) [(0, 0xFFFFFFFF#32), (16, 0x8000001F#32), (15, 0x100C#32)] [] = true := by
  decide

/-- V-DP-06: `ADDS R0, R1, R2`. -/
theorem test_v_dp_06 : runs 32 0xE0910002 (at1000 0x1F#32 [(1, 0x7FFFFFFF#32), (2, 0x1#32)] []) [(0, 0x80000000#32), (16, 0x9000001F#32), (15, 0x100C#32)] [] = true := by
  decide

/-- V-DP-09: `ADCS R0, R1, R2`. -/
theorem test_v_dp_09 : runs 32 0xE0B10002 (at1000 0x2000001F#32 [(1, 0x7FFFFFFF#32), (2, 0x0#32)] []) [(0, 0x80000000#32), (16, 0x9000001F#32), (15, 0x100C#32)] [] = true := by
  decide

/-- V-DP-10: `SBCS R0, R1, R2`. -/
theorem test_v_dp_10 : runs 32 0xE0D10002 (at1000 0x1F#32 [(1, 0x5#32), (2, 0x5#32)] []) [(0, 0xFFFFFFFF#32), (16, 0x8000001F#32), (15, 0x100C#32)] [] = true := by
  decide

/-- V-DP-12: `RSCS R0, R1, R2`. -/
theorem test_v_dp_12 : runs 32 0xE0F10002 (at1000 0x2000001F#32 [(1, 0x3#32), (2, 0xA#32)] []) [(0, 0x7#32), (16, 0x2000001F#32), (15, 0x100C#32)] [] = true := by
  decide

/-- V-DP-14: `TST R1, #0x80000000`. -/
theorem test_v_dp_14 : runs 32 0xE3110102 (at1000 0x1F#32 [(1, 0x80000000#32)] []) [(16, 0xA000001F#32), (15, 0x100C#32)] [] = true := by
  decide

/-- V-DP-16: `TEQ R1, R1`. -/
theorem test_v_dp_16 : runs 32 0xE1310001 (at1000 0x1F#32 [(1, 0x5#32)] []) [(16, 0x4000001F#32), (15, 0x100C#32)] [] = true := by
  decide

/-- V-DP-18: `CMP R1, R2`. -/
theorem test_v_dp_18 : runs 32 0xE1510002 (at1000 0x1F#32 [(1, 0x80000000#32), (2, 0x1#32)] []) [(16, 0x3000001F#32), (15, 0x100C#32)] [] = true := by
  decide

/-- V-DP-19: `CMN R1, R2`. -/
theorem test_v_dp_19 : runs 32 0xE1710002 (at1000 0x1F#32 [(1, 0xFFFFFFFF#32), (2, 0x1#32)] []) [(16, 0x6000001F#32), (15, 0x100C#32)] [] = true := by
  decide

/-- V-DP-20: `ORR R0, R1, R2, LSL #4`. -/
theorem test_v_dp_20 : runs 32 0xE1810202 (at1000 0x1F#32 [(1, 0xF#32), (2, 0x1#32)] []) [(0, 0x1F#32), (16, 0x1F#32), (15, 0x100C#32)] [] = true := by
  decide

/-- V-DP-21: `MOVS R0, R1, LSR #32`. -/
theorem test_v_dp_21 : runs 32 0xE1B00021 (at1000 0x1F#32 [(1, 0x80000000#32)] []) [(0, 0x0#32), (16, 0x6000001F#32), (15, 0x100C#32)] [] = true := by
  decide

/-- V-DP-22: `MOVS R0, R1, RRX`. -/
theorem test_v_dp_22 : runs 32 0xE1B00061 (at1000 0x2000001F#32 [(1, 0x3#32)] []) [(0, 0x80000001#32), (16, 0xA000001F#32), (15, 0x100C#32)] [] = true := by
  decide

/-- V-DP-23: `MOVS R0, R1, LSL R2`. -/
theorem test_v_dp_23 : runs 32 0xE1B00211 (at1000 0x1F#32 [(1, 0x1#32), (2, 0x120#32)] []) [(0, 0x0#32), (16, 0x6000001F#32), (15, 0x100C#32)] [] = true := by
  decide

/-- V-DP-24: `MOV R0, PC`. -/
theorem test_v_dp_24 : runs 32 0xE1A0000F (at1000 0x1F#32 [] []) [(0, 0x1008#32), (16, 0x1F#32), (15, 0x100C#32)] [] = true := by
  decide

/-- V-DP-26: `BIC R0, R1, #0xFF`. -/
theorem test_v_dp_26 : runs 32 0xE3C100FF (at1000 0x1F#32 [(1, 0x12345678#32)] []) [(0, 0x12345600#32), (16, 0x1F#32), (15, 0x100C#32)] [] = true := by
  decide

/-- V-DP-27: `MVNS R0, #0`. -/
theorem test_v_dp_27 : runs 32 0xE3F00000 (at1000 0x2000001F#32 [] []) [(0, 0xFFFFFFFF#32), (16, 0xA000001F#32), (15, 0x100C#32)] [] = true := by
  decide

/-- V-DP-28: `MOV PC, R1 (S = 0)`. -/
theorem test_v_dp_28 : runs 32 0xE1A0F001 (at1000 0x1F#32 [(1, 0x2003#32)] []) [(16, 0x1F#32), (15, 0x2008#32)] [] = true := by
  decide

/-- V-DP-30: `MOVS PC, LR`. -/
theorem test_v_dp_30 : runs 32 0xE1B0F00E (at1000 0x13#32 [(26, 0x2000#32), (27, 0x30#32)] []) [(16, 0x30#32), (15, 0x2004#32)] [] = true := by
  decide

/-- V-DP-25: `ADD R0, PC, R1, LSL R2`. -/
theorem test_v_dp_25 : stops 32 0xE08F0211 (at1000 0x1F#32 [(1, 0x1#32), (2, 0x0#32)] []) = true := by decide

/-- V-DP-31: `MOVS PC, LR`. -/
theorem test_v_dp_31 : stops 32 0xE1B0F00E (at1000 0x13#32 [(26, 0x2000#32), (27, 0x0#32)] []) = true := by decide

/-- V-PSR-02: `MRS R0, SPSR`. -/
theorem test_v_psr_02 : runs 32 0xE14F0000 (at1000 0x13#32 [(27, 0xF00000D3#32)] []) [(0, 0xF00000D3#32), (16, 0x13#32), (15, 0x100C#32)] [] = true := by
  decide

/-- V-PSR-04: `MSR CPSR_f, #0xF0000000`. -/
theorem test_v_psr_04 : runs 32 0xE328F20F (at1000 0x1F#32 [] []) [(16, 0xF000001F#32), (15, 0x100C#32)] [] = true := by
  decide

/-- V-PSR-06: `MSR CPSR_fc, R0 (User)`. -/
theorem test_v_psr_06 : runs 32 0xE129F000 (at1000 0x10#32 [(0, 0xF000001F#32)] []) [(16, 0xF0000010#32), (15, 0x100C#32)] [] = true := by
  decide

/-- V-PSR-07: `MSR CPSR_c, R0 (T would change)`. -/
theorem test_v_psr_07 : stops 32 0xE121F000 (at1000 0x1F#32 [(0, 0x3F#32)] []) = true := by decide

/-- V-PSR-09: `MSR SPSR_fsxc, R0`. -/
theorem test_v_psr_09 : runs 32 0xE16FF000 (at1000 0x12#32 [(0, 0x12345678#32)] []) [(33, 0x12345678#32), (16, 0x12#32), (15, 0x100C#32)] [] = true := by
  decide

/-- V-MUL-01: `MUL R0, R1, R2`. -/
theorem test_v_mul_01 : runs 32 0xE0000291 (at1000 0x1F#32 [(1, 0x7#32), (2, 0x6#32)] []) [(0, 0x2A#32), (16, 0x1F#32), (15, 0x100C#32)] [] = true := by
  decide

/-- V-MUL-04: `MLA R0, R1, R2, R3`. -/
theorem test_v_mul_04 : runs 32 0xE0203291 (at1000 0x1F#32 [(1, 0x10000#32), (2, 0x10000#32), (3, 0x5#32)] []) [(0, 0x5#32), (16, 0x1F#32), (15, 0x100C#32)] [] = true := by
  decide

/-- V-MUL-05: `UMULL R0, R1, R2, R3`. -/
theorem test_v_mul_05 : runs 32 0xE0810392 (at1000 0x1F#32 [(2, 0xFFFFFFFF#32), (3, 0xFFFFFFFF#32)] []) [(0, 0x1#32), (1, 0xFFFFFFFE#32), (16, 0x1F#32), (15, 0x100C#32)] [] = true := by
  decide

/-- V-MUL-07: `UMLAL R0, R1, R2, R3`. -/
theorem test_v_mul_07 : runs 32 0xE0A10392 (at1000 0x1F#32 [(0, 0x1#32), (2, 0xFFFFFFFF#32), (3, 0x1#32)] []) [(0, 0x0#32), (1, 0x1#32), (16, 0x1F#32), (15, 0x100C#32)] [] = true := by
  decide

/-- V-MUL-08: `SMULL R0, R1, R2, R3`. -/
theorem test_v_mul_08 : runs 32 0xE0C10392 (at1000 0x1F#32 [(2, 0xFFFFFFFF#32), (3, 0xFFFFFFFF#32)] []) [(0, 0x1#32), (1, 0x0#32), (16, 0x1F#32), (15, 0x100C#32)] [] = true := by
  decide

/-- V-MUL-10: `SMLAL R0, R1, R2, R3`. -/
theorem test_v_mul_10 : runs 32 0xE0E10392 (at1000 0x1F#32 [(2, 0xFFFFFFFE#32), (3, 0x3#32)] []) [(0, 0xFFFFFFFA#32), (1, 0xFFFFFFFF#32), (16, 0x1F#32), (15, 0x100C#32)] [] = true := by
  decide

/-- V-MUL-06: `UMULL R0, R0, R2, R3`. -/
theorem test_v_mul_06 : stops 32 0xE0800392 (at1000 0x1F#32 [] []) = true := by decide

/-- V-SDT-02: `LDR R0, [R1, #1]`. -/
theorem test_v_sdt_02 : runs 32 0xE5910001 (at1000 0x1F#32 [(1, 0x2000#32)] [(0x2000#32, 0x11223344#32), (0x2004#32, 0x8001F07F#32)]) [(0, 0x44112233#32), (16, 0x1F#32), (15, 0x100C#32)] [] = true := by
  decide

/-- V-SDT-06: `LDR R0, [R1, #-4]!`. -/
theorem test_v_sdt_06 : runs 32 0xE5310004 (at1000 0x1F#32 [(1, 0x2008#32)] [(0x2000#32, 0x11223344#32), (0x2004#32, 0x8001F07F#32)]) [(0, 0x8001F07F#32), (1, 0x2004#32), (16, 0x1F#32), (15, 0x100C#32)] [] = true := by
  decide

/-- V-SDT-08: `LDR R0, [R1, -R2, ASR #1]`. -/
theorem test_v_sdt_08 : runs 32 0xE71100C2 (at1000 0x1F#32 [(1, 0x2008#32), (2, 0x8#32)] [(0x2000#32, 0x11223344#32), (0x2004#32, 0x8001F07F#32)]) [(0, 0x8001F07F#32), (16, 0x1F#32), (15, 0x100C#32)] [] = true := by
  decide

/-- V-SDT-10: `LDR PC, [R1]`. -/
theorem test_v_sdt_10 : runs 32 0xE591F000 (at1000 0x1F#32 [(1, 0x2000#32)] [(0x2000#32, 0x3000#32)]) [(16, 0x1F#32), (15, 0x3008#32)] [] = true := by
  decide

/-- V-SDT-13: `LDR R0, [R1, PC]`. -/
theorem test_v_sdt_13 : stops 32 0xE791000F (at1000 0x1F#32 [(1, 0x2000#32)] []) = true := by decide

/-- V-SDT-15: `STR R0, [R1, #2] (unaligned)`. -/
theorem test_v_sdt_15 : runs 32 0xE5810002 (at1000 0x1F#32 [(0, 0xDEADBEEF#32), (1, 0x3000#32)] []) [(16, 0x1F#32), (15, 0x100C#32)] [(.word, 0x3000#32, 0xDEADBEEF#32)] = true := by
  decide

/-- V-SDT-16: `STR PC, [R1]`. -/
theorem test_v_sdt_16 : runs 32 0xE581F000 (at1000 0x1F#32 [(1, 0x3000#32)] []) [(16, 0x1F#32), (15, 0x100C#32)] [(.word, 0x3000#32, 0x100C#32)] = true := by
  decide

/-- V-SDT-17: `LDRB R0, [R1, #2]`. -/
theorem test_v_sdt_17 : runs 32 0xE5D10002 (at1000 0x1F#32 [(1, 0x2000#32)] [(0x2000#32, 0x11223344#32), (0x2004#32, 0x8001F07F#32)]) [(0, 0x22#32), (16, 0x1F#32), (15, 0x100C#32)] [] = true := by
  decide

/-- V-SDT-18: `STRB R0, [R1, #3]`. -/
theorem test_v_sdt_18 : runs 32 0xE5C10003 (at1000 0x1F#32 [(0, 0xDEADBEEF#32), (1, 0x3000#32)] []) [(16, 0x1F#32), (15, 0x100C#32)] [(.byte, 0x3003#32, 0xEF#32)] = true := by
  decide

/-- V-SDT-20: `LDRT R0, [R1], #4`. -/
theorem test_v_sdt_20 : runs 32 0xE4B10004 (at1000 0x1F#32 [(1, 0x2000#32)] [(0x2000#32, 0x11223344#32), (0x2004#32, 0x8001F07F#32)]) [(0, 0x11223344#32), (1, 0x2004#32), (16, 0x1F#32), (15, 0x100C#32)] [] = true := by
  decide

/-- V-SDT-21: `STRBT R0, [R1], #1`. -/
theorem test_v_sdt_21 : runs 32 0xE4E10001 (at1000 0x1F#32 [(0, 0xAB#32), (1, 0x3000#32)] []) [(1, 0x3001#32), (16, 0x1F#32), (15, 0x100C#32)] [(.byte, 0x3000#32, 0xAB#32)] = true := by
  decide

/-- V-HW-02: `LDRH R0, [R1, #1] (unaligned)`. -/
theorem test_v_hw_02 : runs 32 0xE1D100B1 (at1000 0x1F#32 [(1, 0x2000#32)] [(0x2000#32, 0x8001F07F#32)]) [(0, 0x7F0000F0#32), (16, 0x1F#32), (15, 0x100C#32)] [] = true := by
  decide

/-- V-HW-04: `LDRH R0, [R1, #-0x10]!`. -/
theorem test_v_hw_04 : runs 32 0xE17101B0 (at1000 0x1F#32 [(1, 0x2010#32)] [(0x2000#32, 0x8001F07F#32)]) [(0, 0xF07F#32), (1, 0x2000#32), (16, 0x1F#32), (15, 0x100C#32)] [] = true := by
  decide

/-- V-HW-05: `LDRSB R0, [R1, #1]`. -/
theorem test_v_hw_05 : runs 32 0xE1D100D1 (at1000 0x1F#32 [(1, 0x2000#32)] [(0x2000#32, 0x8001F07F#32)]) [(0, 0xFFFFFFF0#32), (16, 0x1F#32), (15, 0x100C#32)] [] = true := by
  decide

/-- V-HW-08: `LDRSH R0, [R1, #3] (unaligned)`. -/
theorem test_v_hw_08 : runs 32 0xE1D100F3 (at1000 0x1F#32 [(1, 0x2000#32)] [(0x2000#32, 0x8001F07F#32)]) [(0, 0xFFFFFF80#32), (16, 0x1F#32), (15, 0x100C#32)] [] = true := by
  decide

/-- V-HW-10: `STRH R0, [R1, #3] (unaligned)`. -/
theorem test_v_hw_10 : runs 32 0xE1C100B3 (at1000 0x1F#32 [(0, 0xDEADBEEF#32), (1, 0x3000#32)] []) [(16, 0x1F#32), (15, 0x100C#32)] [(.half, 0x3002#32, 0xBEEF#32)] = true := by
  decide

/-- V-HW-12: `LDRH R0, [R1], #2 with W = 1`. -/
theorem test_v_hw_12 : stops 32 0xE0F100B2 (at1000 0x1F#32 [(1, 0x2000#32)] []) = true := by decide

/-- V-BDT-02: `STMIB R0!, {R1, R3, R5}`. -/
theorem test_v_bdt_02 : runs 32 0xE9A0002A (at1000 0x1F#32 [(0, 0x2000#32), (1, 0x11#32), (3, 0x33#32), (5, 0x55#32)] []) [(0, 0x200C#32), (16, 0x1F#32), (15, 0x100C#32)] [(.word, 0x2004#32, 0x11#32), (.word, 0x2008#32, 0x33#32), (.word, 0x200C#32, 0x55#32)] = true := by
  decide

/-- V-BDT-03: `STMDA R0!, {R1, R3, R5}`. -/
theorem test_v_bdt_03 : runs 32 0xE820002A (at1000 0x1F#32 [(0, 0x2000#32), (1, 0x11#32), (3, 0x33#32), (5, 0x55#32)] []) [(0, 0x1FF4#32), (16, 0x1F#32), (15, 0x100C#32)] [(.word, 0x1FF8#32, 0x11#32), (.word, 0x1FFC#32, 0x33#32), (.word, 0x2000#32, 0x55#32)] = true := by
  decide

/-- V-BDT-06: `LDMIB R13!, {R0, R1}`. -/
theorem test_v_bdt_06 : runs 32 0xE9BD0003 (at1000 0x1F#32 [(13, 0x2000#32)] [(0x1FF8#32, 0x98#32), (0x1FFC#32, 0x9C#32), (0x2000#32, 0xA0#32), (0x2004#32, 0xA4#32), (0x2008#32, 0xA8#32), (0x200C#32, 0xAC#32)]) [(0, 0xA4#32), (1, 0xA8#32), (13, 0x2008#32), (16, 0x1F#32), (15, 0x100C#32)] [] = true := by
  decide

/-- V-BDT-08: `LDMDB R13!, {R0, R1}`. -/
theorem test_v_bdt_08 : runs 32 0xE93D0003 (at1000 0x1F#32 [(13, 0x2000#32)] [(0x1FF8#32, 0x98#32), (0x1FFC#32, 0x9C#32), (0x2000#32, 0xA0#32), (0x2004#32, 0xA4#32), (0x2008#32, 0xA8#32), (0x200C#32, 0xAC#32)]) [(0, 0x98#32), (1, 0x9C#32), (13, 0x1FF8#32), (16, 0x1F#32), (15, 0x100C#32)] [] = true := by
  decide

/-- V-BDT-13: `LDMFD R13!, {R0, PC}^ (Supervisor)`. -/
theorem test_v_bdt_13 : runs 32 0xE8FD8001 (at1000 0x13#32 [(25, 0x2000#32), (27, 0x30#32)] [(0x2000#32, 0x5#32), (0x2004#32, 0x4001#32)]) [(0, 0x5#32), (25, 0x2008#32), (16, 0x30#32), (15, 0x4004#32)] [] = true := by
  decide

/-- V-BDT-15: `LDMIA R0, {R13}^ (Supervisor)`. -/
theorem test_v_bdt_15 : runs 32 0xE8D02000 (at1000 0x13#32 [(0, 0x2000#32)] [(0x2000#32, 0x9999#32)]) [(13, 0x9999#32), (16, 0x13#32), (15, 0x100C#32)] [] = true := by
  decide

/-- V-BDT-18: `STMIA R0!, {R1}^ (Supervisor)`. -/
theorem test_v_bdt_18 : stops 32 0xE8E00002 (at1000 0x13#32 [(0, 0x3000#32)] []) = true := by decide

/-- V-SWP-03: `SWP R0, R1, [R2] (unaligned)`. -/
theorem test_v_swp_03 : runs 32 0xE1020091 (at1000 0x1F#32 [(1, 0xAABBCCDD#32), (2, 0x2005#32)] [(0x2004#32, 0x55667788#32)]) [(0, 0x88556677#32), (16, 0x1F#32), (15, 0x100C#32)] [(.word, 0x2004#32, 0xAABBCCDD#32)] = true := by
  decide

/-- V-SWP-04: `SWPB R0, R1, [R2]`. -/
theorem test_v_swp_04 : runs 32 0xE1420091 (at1000 0x1F#32 [(1, 0xAABBCCDD#32), (2, 0x2005#32)] [(0x2004#32, 0x55667788#32)]) [(0, 0x77#32), (16, 0x1F#32), (15, 0x100C#32)] [(.byte, 0x2005#32, 0xDD#32)] = true := by
  decide

/-- V-SWP-05: `SWP R2, R1, [R2]`. -/
theorem test_v_swp_05 : stops 32 0xE1022091 (at1000 0x1F#32 [(2, 0x2004#32)] []) = true := by decide

/-- V-BR-02: `B 0x800`. -/
theorem test_v_br_02 : runs 32 0xEAFFFDFE (at1000 0x1F#32 [] []) [(16, 0x1F#32), (15, 0x808#32)] [] = true := by
  decide

/-- V-BR-04: `BL 0x2000`. -/
theorem test_v_br_04 : runs 32 0xEB0003FE (at1000 0x1F#32 [] []) [(14, 0x1004#32), (16, 0x1F#32), (15, 0x2008#32)] [] = true := by
  decide

/-- V-BR-07: `BX R0`. -/
theorem test_v_br_07 : runs 32 0xE12FFF10 (at1000 0x1F#32 [(0, 0x2003#32)] []) [(16, 0x3F#32), (15, 0x2006#32)] [] = true := by
  decide

/-- V-BR-09: `BX R0`. -/
theorem test_v_br_09 : stops 32 0xE12FFF10 (at1000 0x1F#32 [(0, 0x2002#32)] []) = true := by decide

/-- V-EXC-02: `SWI 0x12 (User)`. -/
theorem test_v_exc_02 : runs 32 0xEF000012 (at1000 0x60000010#32 [] []) [(26, 0x1004#32), (27, 0x60000010#32), (16, 0x60000093#32), (15, 0x10#32)] [] = true := by
  decide

/-- V-EXC-06: `UND space 0xE6000010 (IRQ mode, F = 1)`. -/
theorem test_v_exc_06 : runs 32 0xE6000010 (at1000 0x52#32 [] []) [(35, 0x1004#32), (36, 0x52#32), (16, 0xDB#32), (15, 0xC#32)] [] = true := by
  decide

/-- V-EXC-07: `MRC 0xEE100010`. -/
theorem test_v_exc_07 : runs 32 0xEE100010 (at1000 0x1F#32 [] []) [(35, 0x1004#32), (36, 0x1F#32), (16, 0x9B#32), (15, 0xC#32)] [] = true := by
  decide

/-- V-EXC-14: `Unsupported with a failing condition 0x00400090 (Z = 0)`. -/
theorem test_v_exc_14 : stops 32 0x00400090 (at1000 0x1F#32 [] []) = true := by decide

/-- V-TA-01: `LSL R0, R1, #4`. -/
theorem test_v_ta_01 : runs 16 0x0108 (at1000 0x3F#32 [(1, 0x10000001#32)] []) [(0, 0x10#32), (16, 0x2000003F#32), (15, 0x1006#32)] [] = true := by
  decide

/-- V-TA-03: `LSR R0, R1, #0 (= #32)`. -/
theorem test_v_ta_03 : runs 16 0x0808 (at1000 0x3F#32 [(1, 0x80000000#32)] []) [(0, 0x0#32), (16, 0x6000003F#32), (15, 0x1006#32)] [] = true := by
  decide

/-- V-TA-04: `ASR R0, R1, #4`. -/
theorem test_v_ta_04 : runs 16 0x1108 (at1000 0x3F#32 [(1, 0x80000010#32)] []) [(0, 0xF8000001#32), (16, 0x8000003F#32), (15, 0x1006#32)] [] = true := by
  decide

/-- V-TA-05: `ADD R0, R1, R2`. -/
theorem test_v_ta_05 : runs 16 0x1888 (at1000 0x3F#32 [(1, 0xFFFFFFFF#32), (2, 0x1#32)] []) [(0, 0x0#32), (16, 0x6000003F#32), (15, 0x1006#32)] [] = true := by
  decide

/-- V-TA-06: `SUB R0, R1, R2`. -/
theorem test_v_ta_06 : runs 16 0x1A88 (at1000 0x3F#32 [(1, 0x1#32), (2, 0x1#32)] []) [(0, 0x0#32), (16, 0x6000003F#32), (15, 0x1006#32)] [] = true := by
  decide

/-- V-TA-09: `SUB R0, R1, #1`. -/
theorem test_v_ta_09 : runs 16 0x1E48 (at1000 0x3F#32 [(1, 0x0#32)] []) [(0, 0xFFFFFFFF#32), (16, 0x8000003F#32), (15, 0x1006#32)] [] = true := by
  decide

/-- V-TA-10: `MOV R0, #0xFF`. -/
theorem test_v_ta_10 : runs 16 0x20FF (at1000 0x3000003F#32 [] []) [(0, 0xFF#32), (16, 0x3000003F#32), (15, 0x1006#32)] [] = true := by
  decide

/-- V-TA-12: `ADD R0, #1`. -/
theorem test_v_ta_12 : runs 16 0x3001 (at1000 0x3F#32 [(0, 0xFFFFFFFF#32)] []) [(0, 0x0#32), (16, 0x6000003F#32), (15, 0x1006#32)] [] = true := by
  decide

/-- V-TA-13: `SUB R0, #1`. -/
theorem test_v_ta_13 : runs 16 0x3801 (at1000 0x3F#32 [(0, 0x80000000#32)] []) [(0, 0x7FFFFFFF#32), (16, 0x3000003F#32), (15, 0x1006#32)] [] = true := by
  decide

/-- V-TA-14: `AND R0, R1`. -/
theorem test_v_ta_14 : runs 16 0x4008 (at1000 0x2000003F#32 [(0, 0xFF00FF00#32), (1, 0xFF00FF0#32)] []) [(0, 0xF000F00#32), (16, 0x2000003F#32), (15, 0x1006#32)] [] = true := by
  decide

/-- V-TA-17: `LSL R0, R1 (R1 = 0)`. -/
theorem test_v_ta_17 : runs 16 0x4088 (at1000 0x2000003F#32 [(0, 0x80000000#32), (1, 0x0#32)] []) [(0, 0x80000000#32), (16, 0xA000003F#32), (15, 0x1006#32)] [] = true := by
  decide

/-- V-TA-18: `LSR R0, R1 (R1 = 33)`. -/
theorem test_v_ta_18 : runs 16 0x40C8 (at1000 0x2000003F#32 [(0, 0x80000000#32), (1, 0x21#32)] []) [(0, 0x0#32), (16, 0x4000003F#32), (15, 0x1006#32)] [] = true := by
  decide

/-- V-TA-19: `ASR R0, R1 (R1 = 0x1FF)`. -/
theorem test_v_ta_19 : runs 16 0x4108 (at1000 0x3F#32 [(0, 0x80000000#32), (1, 0x1FF#32)] []) [(0, 0xFFFFFFFF#32), (16, 0xA000003F#32), (15, 0x1006#32)] [] = true := by
  decide

/-- V-TA-20: `ADC R0, R1`. -/
theorem test_v_ta_20 : runs 16 0x4148 (at1000 0x2000003F#32 [(0, 0x7FFFFFFF#32), (1, 0x0#32)] []) [(0, 0x80000000#32), (16, 0x9000003F#32), (15, 0x1006#32)] [] = true := by
  decide

/-- V-TA-21: `SBC R0, R1`. -/
theorem test_v_ta_21 : runs 16 0x4188 (at1000 0x3F#32 [(0, 0x0#32), (1, 0x0#32)] []) [(0, 0xFFFFFFFF#32), (16, 0x8000003F#32), (15, 0x1006#32)] [] = true := by
  decide

/-- V-TA-22: `ROR R0, R1`. -/
theorem test_v_ta_22 : runs 16 0x41C8 (at1000 0x3F#32 [(0, 0x1F#32), (1, 0x4#32)] []) [(0, 0xF0000001#32), (16, 0xA000003F#32), (15, 0x1006#32)] [] = true := by
  decide

/-- V-TA-24: `NEG R0, R1`. -/
theorem test_v_ta_24 : runs 16 0x4248 (at1000 0x3F#32 [(1, 0x80000000#32)] []) [(0, 0x80000000#32), (16, 0x9000003F#32), (15, 0x1006#32)] [] = true := by
  decide

/-- V-TA-26: `CMN R0, R1`. -/
theorem test_v_ta_26 : runs 16 0x42C8 (at1000 0x3F#32 [(0, 0x80000000#32), (1, 0x80000000#32)] []) [(16, 0x7000003F#32), (15, 0x1006#32)] [] = true := by
  decide

/-- V-TA-30: `BIC R0, R1`. -/
theorem test_v_ta_30 : runs 16 0x4388 (at1000 0x3F#32 [(0, 0xFF#32), (1, 0xF#32)] []) [(0, 0xF0#32), (16, 0x3F#32), (15, 0x1006#32)] [] = true := by
  decide

/-- V-TA-31: `MVN R0, R1`. -/
theorem test_v_ta_31 : runs 16 0x43C8 (at1000 0x3F#32 [(1, 0x0#32)] []) [(0, 0xFFFFFFFF#32), (16, 0x8000003F#32), (15, 0x1006#32)] [] = true := by
  decide

/-- V-TA-32: `ADD R8, R0`. -/
theorem test_v_ta_32 : runs 16 0x4480 (at1000 0xF000003F#32 [(0, 0x5#32), (8, 0x7#32)] []) [(8, 0xC#32), (16, 0xF000003F#32), (15, 0x1006#32)] [] = true := by
  decide

/-- V-TA-33: `ADD PC, R0`. -/
theorem test_v_ta_33 : runs 16 0x4487 (at1000 0x3F#32 [(0, 0x100#32)] []) [(16, 0x3F#32), (15, 0x1108#32)] [] = true := by
  decide

/-- V-TA-34: `CMP R8, R0`. -/
theorem test_v_ta_34 : runs 16 0x4580 (at1000 0x3F#32 [(0, 0x5#32), (8, 0x5#32)] []) [(16, 0x6000003F#32), (15, 0x1006#32)] [] = true := by
  decide

/-- V-TA-36: `MOV R0, PC`. -/
theorem test_v_ta_36 : runs 16 0x4678 (at1000 0x3F#32 [] []) [(0, 0x1004#32), (16, 0x3F#32), (15, 0x1006#32)] [] = true := by
  decide

/-- V-TA-37: `ADD R0, R1 with H1 = H2 = 0 (0x4408)`. -/
theorem test_v_ta_37 : stops 16 0x4408 (at1000 0x3F#32 [] []) = true := by decide

/-- V-TA-39: `BX R0`. -/
theorem test_v_ta_39 : runs 16 0x4700 (at1000 0x3F#32 [(0, 0x2000#32)] []) [(16, 0x1F#32), (15, 0x2008#32)] [] = true := by
  decide

/-- V-TA-40: `BX with H1 = 1 (0x4780)`. -/
theorem test_v_ta_40 : stops 16 0x4780 (at1000 0x3F#32 [] []) = true := by decide

/-- V-TT-01: `LDR R0, [PC, #0x100] at A = 0x1000`. -/
theorem test_v_tt_01 : runs 16 0x4840 (at1000 0x3F#32 [] [(0x1104#32, 0xBADF00D#32)]) [(0, 0xBADF00D#32), (16, 0x3F#32), (15, 0x1006#32)] [] = true := by
  decide

/-- V-TT-04: `STRB R0, [R1, R2]`. -/
theorem test_v_tt_04 : runs 16 0x5488 (at1000 0x3F#32 [(0, 0xDEADBEEF#32), (1, 0x3000#32), (2, 0x5#32)] []) [(16, 0x3F#32), (15, 0x1006#32)] [(.byte, 0x3005#32, 0xEF#32)] = true := by
  decide

/-- V-TT-05: `LDR R0, [R1, R2] (unaligned)`. -/
theorem test_v_tt_05 : runs 16 0x5888 (at1000 0x3F#32 [(1, 0x2000#32), (2, 0x1#32)] [(0x2000#32, 0x11223344#32), (0x2004#32, 0x8001F07F#32)]) [(0, 0x44112233#32), (16, 0x3F#32), (15, 0x1006#32)] [] = true := by
  decide

/-- V-TT-07: `STRH R0, [R1, R2]`. -/
theorem test_v_tt_07 : runs 16 0x5288 (at1000 0x3F#32 [(0, 0xDEADBEEF#32), (1, 0x3000#32), (2, 0x2#32)] []) [(16, 0x3F#32), (15, 0x1006#32)] [(.half, 0x3002#32, 0xBEEF#32)] = true := by
  decide

/-- V-TT-08: `LDSB R0, [R1, R2]`. -/
theorem test_v_tt_08 : runs 16 0x5688 (at1000 0x3F#32 [(1, 0x2004#32), (2, 0x1#32)] [(0x2000#32, 0x11223344#32), (0x2004#32, 0x8001F07F#32)]) [(0, 0xFFFFFFF0#32), (16, 0x3F#32), (15, 0x1006#32)] [] = true := by
  decide

/-- V-TT-11: `LDSH R0, [R1, R2] (unaligned)`. -/
theorem test_v_tt_11 : runs 16 0x5E88 (at1000 0x3F#32 [(1, 0x2004#32), (2, 0x3#32)] [(0x2000#32, 0x11223344#32), (0x2004#32, 0x8001F07F#32)]) [(0, 0xFFFFFF80#32), (16, 0x3F#32), (15, 0x1006#32)] [] = true := by
  decide

/-- V-TT-14: `STRB R0, [R1, #31]`. -/
theorem test_v_tt_14 : runs 16 0x77C8 (at1000 0x3F#32 [(0, 0xAB#32), (1, 0x3000#32)] []) [(16, 0x3F#32), (15, 0x1006#32)] [(.byte, 0x301F#32, 0xAB#32)] = true := by
  decide

/-- V-TT-15: `LDRB R0, [R1, #5]`. -/
theorem test_v_tt_15 : runs 16 0x7948 (at1000 0x3F#32 [(1, 0x2000#32)] [(0x2000#32, 0x11223344#32), (0x2004#32, 0x8001F07F#32)]) [(0, 0xF0#32), (16, 0x3F#32), (15, 0x1006#32)] [] = true := by
  decide

/-- V-TT-16: `STRH R0, [R1, #62]`. -/
theorem test_v_tt_16 : runs 16 0x87C8 (at1000 0x3F#32 [(0, 0xDEADBEEF#32), (1, 0x3000#32)] []) [(16, 0x3F#32), (15, 0x1006#32)] [(.half, 0x303E#32, 0xBEEF#32)] = true := by
  decide

/-- V-TT-18: `STR R0, [SP, #8]`. -/
theorem test_v_tt_18 : runs 16 0x9002 (at1000 0x3F#32 [(0, 0xDEADBEEF#32), (13, 0x3000#32)] []) [(16, 0x3F#32), (15, 0x1006#32)] [(.word, 0x3008#32, 0xDEADBEEF#32)] = true := by
  decide

/-- V-TT-19: `LDR R0, [SP, #4]`. -/
theorem test_v_tt_19 : runs 16 0x9801 (at1000 0x3F#32 [(13, 0x2000#32)] [(0x2000#32, 0x11223344#32), (0x2004#32, 0x8001F07F#32)]) [(0, 0x8001F07F#32), (16, 0x3F#32), (15, 0x1006#32)] [] = true := by
  decide

/-- V-TT-21: `ADD R0, SP, #1020`. -/
theorem test_v_tt_21 : runs 16 0xA8FF (at1000 0xF000003F#32 [(13, 0x3000#32)] []) [(0, 0x33FC#32), (16, 0xF000003F#32), (15, 0x1006#32)] [] = true := by
  decide

/-- V-TT-22: `ADD SP, #508`. -/
theorem test_v_tt_22 : runs 16 0xB07F (at1000 0x3F#32 [(13, 0x3000#32)] []) [(13, 0x31FC#32), (16, 0x3F#32), (15, 0x1006#32)] [] = true := by
  decide

/-- V-TT-23: `SUB SP, #8`. -/
theorem test_v_tt_23 : runs 16 0xB082 (at1000 0x3F#32 [(13, 0x3000#32)] []) [(13, 0x2FF8#32), (16, 0x3F#32), (15, 0x1006#32)] [] = true := by
  decide

/-- V-TT-24: `PUSH {R0, R1, LR}`. -/
theorem test_v_tt_24 : runs 16 0xB503 (at1000 0x3F#32 [(0, 0x10#32), (1, 0x11#32), (14, 0xEE#32), (13, 0x3000#32)] []) [(13, 0x2FF4#32), (16, 0x3F#32), (15, 0x1006#32)] [(.word, 0x2FF4#32, 0x10#32), (.word, 0x2FF8#32, 0x11#32), (.word, 0x2FFC#32, 0xEE#32)] = true := by
  decide

/-- V-TT-25: `POP {R0, R1, PC}`. -/
theorem test_v_tt_25 : runs 16 0xBD03 (at1000 0x3F#32 [(13, 0x2000#32)] [(0x2000#32, 0xA0#32), (0x2004#32, 0xA4#32), (0x2008#32, 0x3001#32)]) [(0, 0xA0#32), (1, 0xA4#32), (13, 0x200C#32), (16, 0x3F#32), (15, 0x3004#32)] [] = true := by
  decide

/-- V-TT-26: `PUSH {} (0xB400)`. -/
theorem test_v_tt_26 : stops 16 0xB400 (at1000 0x3F#32 [(13, 0x3000#32)] []) = true := by decide

/-- V-TT-27: `PUSH {LR} in IRQ mode`. -/
theorem test_v_tt_27 : runs 16 0xB500 (at1000 0x32#32 [(31, 0x3000#32), (32, 0x1234#32)] []) [(31, 0x2FFC#32), (16, 0x32#32), (15, 0x1006#32)] [(.word, 0x2FFC#32, 0x1234#32)] = true := by
  decide

/-- V-TT-29: `STMIA R0!, {R0, R1}`. -/
theorem test_v_tt_29 : runs 16 0xC003 (at1000 0x3F#32 [(0, 0x3000#32), (1, 0x11#32)] []) [(0, 0x3008#32), (16, 0x3F#32), (15, 0x1006#32)] [(.word, 0x3000#32, 0x3000#32), (.word, 0x3004#32, 0x11#32)] = true := by
  decide

/-- V-TT-30: `LDMIA R0!, {R1, R2}`. -/
theorem test_v_tt_30 : runs 16 0xC806 (at1000 0x3F#32 [(0, 0x2000#32)] [(0x1FF8#32, 0x98#32), (0x1FFC#32, 0x9C#32), (0x2000#32, 0xA0#32), (0x2004#32, 0xA4#32), (0x2008#32, 0xA8#32), (0x200C#32, 0xAC#32)]) [(0, 0x2008#32), (1, 0xA0#32), (2, 0xA4#32), (16, 0x3F#32), (15, 0x1006#32)] [] = true := by
  decide

/-- V-TB-03: `BNE 0xF80`. -/
theorem test_v_tb_03 : runs 16 0xD1BE (at1000 0x3F#32 [] []) [(16, 0x3F#32), (15, 0xF84#32)] [] = true := by
  decide

/-- V-TB-04: `BGT 0x1004 (N = V = 1)`. -/
theorem test_v_tb_04 : runs 16 0xDC00 (at1000 0x9000003F#32 [] []) [(16, 0x9000003F#32), (15, 0x1008#32)] [] = true := by
  decide

/-- V-TB-05: `SWI 0x12`. -/
theorem test_v_tb_05 : runs 16 0xDF12 (at1000 0x3F#32 [] []) [(26, 0x1002#32), (27, 0x3F#32), (16, 0x93#32), (15, 0x10#32)] [] = true := by
  decide

/-- V-TB-07: `B 0xC00 (back)`. -/
theorem test_v_tb_07 : runs 16 0xE5FE (at1000 0x3F#32 [] []) [(16, 0x3F#32), (15, 0xC04#32)] [] = true := by
  decide

/-- V-TB-09: `BL prefix 0xF7FF`. -/
theorem test_v_tb_09 : runs 16 0xF7FF (at1000 0x3F#32 [] []) [(14, 0x4#32), (16, 0x3F#32), (15, 0x1006#32)] [] = true := by
  decide

/-- V-TB-13: `B<cond> with cond = 1110 (0xDE00)`. -/
theorem test_v_tb_13 : runs 16 0xDE00 (at1000 0x3F#32 [] []) [(35, 0x1002#32), (36, 0x3F#32), (16, 0x9B#32), (15, 0xC#32)] [] = true := by
  decide

/-- V-TB-15: `0xB100 (misc space)`. -/
theorem test_v_tb_15 : runs 16 0xB100 (at1000 0x3F#32 [] []) [(35, 0x1002#32), (36, 0x3F#32), (16, 0x9B#32), (15, 0xC#32)] [] = true := by
  decide

/-- V-IDEM-03: `LDMNEIA R0!, {R1, PC} (Z = 1)`. -/
theorem test_v_idem_03 : runs 32 0x18B08002 (at1000 0x4000001F#32 [(0, 0x2000#32)] []) [(16, 0x4000001F#32), (15, 0x100C#32)] [] = true := by
  decide

/-! ### Reset, pipeline, interrupt, halt -/

/-- The state after reset is `start()` on the constructed core (R530, R532; assumption logs 3, 4 and 18). -/
theorem test_reset_is_start : HostPort.start defaultStart State.constructed = some State.reset := by decide

/-- V-RST-02: the entry address is aligned down. -/
theorem test_v_rst_02 : (HostPort.start ⟨0x1002#32, 0#32, 0#32, 0#32⟩ State.constructed).map
    (fun t => (t.slot 15, HostPort.getProgramCounter t)) = some (0x1008#32, some 0x1000#32) := by decide

/-- The word 0xE3A00001 (MOV R0, #1) at the IRQ vector, the pipeline filled at 0x1000. -/
def vectorState (cpsr w : Word) : State :=
  { ((at1000 cpsr [] [(0x18#32, 0xE3A00001#32)]).withFetchWord 32 w.toNat) with irqLine := true }

/-- V-IRQ-03. -/
theorem test_v_irq_03 : leaves (step (vectorState 0xA0000010#32 0xE3A02002#32))
    (holds [(0, 1#32), (32, 0x1004#32), (33, 0xA0000010#32), (16, 0xA0000092#32), (15, 0x24#32)] []) = true := by
  decide

/-- V-IRQ-02: masked by I. -/
theorem test_v_irq_02 : leaves (step (vectorState 0x9F#32 0xE3A02002#32))
    (holds [(2, 2#32), (16, 0x9F#32), (15, 0x100C#32)] []) = true := by decide

/-- V-PIPE-03: a store to the word already fetched is not seen. -/
theorem test_v_pipe_03 : leaves (step ((at1000 0x1F#32 [(1, 0xE3A000FF#32), (2, 0x1004#32)]
      [(0x1004#32, 0xE3A00001#32)]).withFetchWord 32 0xE5821000))
    (fun t => t.decoded == 0xE3A00001#32 && t.mem.read .word 0x1004#32 == 0xE3A000FF#32) = true := by decide

/-- V-HOST-01: a tick that finds the halt flag set waits after its instruction. -/
theorem test_v_host_01 : leaves (step { State.reset.withFetchWord 32 0xE3A00001 with haltFlag := true })
    (fun t => t.driver == .halted && t.slot 0 == 1#32 && t.slot 15 == 8#32) = true := by decide

/-- V-HOST-02: `stop()` ends a halt. -/
theorem test_v_host_02 : leaves (step { State.reset with driver := .halted, haltFlag := true, stopRequest := true })
    (fun t => t.driver == .stopped && t.haltFlag == false) = true := by decide

/-! ### Witnesses: concrete states and operands that meet the hypotheses of each statement -/

/-- Supervisor mode with an SPSR. -/
def svc (saved : Word) : State := (State.reset.setCpsr 0x13#32).setSlot 27 saved

/-- System mode, Set-B. -/
def inB : State := State.reset.setCpsr 0x3F#32

theorem wit_StartResets : State.constructed.driver = .stopped ∧ State.reset.driver ≠ .stopped := by decide

theorem wit_BankingMap : (svc 0#32).modeBits = Mode.supervisor.bits ∧ State.reset.modeBits = Mode.system.bits := by decide

theorem wit_PortAccess : Memory.wf [] = true ∧ 3 < Width.word.bytes ∧
    0x1003 < (Width.word.alignDown 0x1007#32).toNat ∧
    (Width.word.alignDown 0x1007#32).toNat + Width.word.bytes ≤ 0x1008 := by decide

theorem wit_LoadAfterStore : Memory.wf [] = true ∧
    (Width.word.alignDown 0x1003#32).toNat + Width.word.bytes ≤ (Width.byte.alignDown 0x1004#32).toNat ∧
    (Width.half.alignDown 0x0FFF#32).toNat + Width.half.bytes ≤ (Width.word.alignDown 0x1003#32).toNat := by decide

theorem wit_MemoryExtensional : Memory.wf [(0xFFFFFFFF, 1#8)] = true ∧
    ∀ a : Nat, Memory.byteAt [(0xFFFFFFFF, 1#8)] a = Memory.byteAt [(0xFFFFFFFF, 1#8)] a := ⟨by decide, fun _ => rfl⟩

/-- The clauses of LoadAfterStore on an address outside the regions and one inside. -/
theorem wit_LoadAfterStore_regions :
    let s := HostPort.mapRegions [⟨0x1000, 4⟩] State.reset
    (∀ g ∈ s.regions, g.base + g.size ≤ (Width.word.alignDown 0x1004#32).toNat) ∧
    (∀ g ∈ s.regions, g.base < (Width.half.alignDown 0x1003#32).toNat + Width.half.bytes ∧
      (Width.half.alignDown 0x1003#32).toNat < g.base + g.size) := by decide

/-- A load from a region gives the oracle's answer to its call, the third after the two fetches of reset (R85). -/
theorem test_oracle : ∃ t : State, exec (.ldrImmPre .al true false 0 1 0#12)
      (HostPort.mapRegions [⟨0, 4⟩] State.reset) = .next t ∧
    t.reg 1 = (Config.portAnswer 2).rotateRight 0 ∧ t.port.length = 3 := ⟨_, rfl, rfl, by decide⟩

/-- R560: the host sees the PC between ticks; log 22: not during a halt. -/
theorem test_host_sees_pc : HostPort.getProgramCounter State.reset = some 0#32 ∧
    HostPort.getProgramCounter { State.reset with driver := .halted } = none := by decide

theorem wit_ShifterBits : 0 < 1 ∧ 0 < 32 ∧ 0 < 255 ∧ 31 < 32 := by decide

theorem wit_FailedCondition : conditionOf (.andImm .eq false 0 0 0#4 0#8) = some .eq ∧
    conditionOf (.bBeq 0#8) = some .eq ∧ State.reset.passed .eq = false := by decide

theorem wit_DpImmediate : State.reset.passed .al = true ∧ (writesRd .add = true → (14 : Reg) ≠ 15) ∧
    (writesRd .cmp = true → (15 : Reg) ≠ 15) := by decide

theorem wit_DpImmediateShift : State.reset.passed .ne = true ∧ (writesRd .mvn = true → (0 : Reg) ≠ 15) ∧
    (writesRd .tst = true → (15 : Reg) ≠ 15) := by decide

theorem wit_DpRegisterShift : State.reset.passed .al = true ∧ (writesRd .mov = true → (14 : Reg) ≠ 15) ∧
    (usesRn .mov = true → (15 : Reg) ≠ 15) ∧ (14 : Reg) ≠ 15 ∧ (0 : Reg) ≠ 15 := by decide

theorem wit_DpBranches_immediate : State.reset.passed .al = true ∧ writesRd .add = true ∧
    ∃ rotate imm8, Instr.addImm .al false 15 15 0#4 255#8 = Instr.dpImm .add .al false 15 15 rotate imm8 ∧
      operandImm 0#4 255#8 State.reset.flagC = operandImm rotate imm8 State.reset.flagC :=
  ⟨by decide, by decide, 0#4, 255#8, rfl, rfl⟩

theorem wit_DpBranches_shift : State.reset.passed .al = true ∧ writesRd .mov = true ∧
    ∃ amount sh rm, Instr.movRegImm .al false 15 0#5 .lsl 14 = Instr.dpRegImm .mov .al false 0 15 amount sh rm ∧
      shift .lsl 0 false (State.reset.reg 14) State.reset.flagC =
        shift sh amount.toNat false (State.reset.reg rm) State.reset.flagC :=
  ⟨by decide, by decide, 0#5, .lsl, 14, rfl, rfl⟩

theorem wit_ExceptionReturn : (svc 0x30#32).passed .al = true ∧ writesRd .sub = true ∧
    (svc 0x30#32).spsr = some 0x30#32 ∧ validMode 0x30#32 = true ∧
    ∃ rotate imm8, Instr.subImm .al true 14 15 0#4 4#8 = Instr.dpImm .sub .al true 14 15 rotate imm8 ∧
      operandImm 0#4 4#8 (svc 0x30#32).flagC = operandImm rotate imm8 (svc 0x30#32).flagC :=
  ⟨by decide, by decide, by decide, by decide, 0#4, 4#8, rfl, rfl⟩

/-- The stops of an exception return: System mode, and an SPSR without a legal mode. -/
theorem wit_ExceptionReturn_noSpsr : State.reset.passed .al = true ∧ writesRd .mov = true ∧ State.reset.spsr = none ∧
    ∃ rotate imm8, Instr.movImm .al true 15 0#4 4#8 = Instr.dpImm .mov .al true 0 15 rotate imm8 ∧
      operandImm 0#4 4#8 State.reset.flagC = operandImm rotate imm8 State.reset.flagC :=
  ⟨by decide, by decide, by decide, 0#4, 4#8, rfl, rfl⟩

theorem wit_ExceptionReturn_invalidMode : (svc 0#32).passed .al = true ∧ writesRd .mov = true ∧
    (svc 0#32).spsr = some 0#32 ∧ validMode 0#32 = false ∧
    ∃ amount sh rm, Instr.movRegImm .al true 15 0#5 .lsl 14 = Instr.dpRegImm .mov .al true 0 15 amount sh rm ∧
      shift .lsl 0 false ((svc 0#32).reg 14) (svc 0#32).flagC =
        shift sh amount.toNat false ((svc 0#32).reg rm) (svc 0#32).flagC :=
  ⟨by decide, by decide, by decide, by decide, 0#5, .lsl, 14, rfl, rfl⟩

theorem wit_OperandR15 : State.reset.passed .al = true ∧ usesRn .cmp = true ∧ writesRd .mov = true ∧
    ¬((usesRn .mov = true ∧ (15 : Reg) = 15) ∨ (writesRd .mov = true ∧ (14 : Reg) = 15) ∨ (0 : Reg) = 15 ∨
      (14 : Reg) = 15) := by decide

theorem wit_Mrs_noSpsr : State.reset.passed .al = true ∧ (14 : Reg) ≠ 15 ∧ State.reset.spsr = none := by decide

theorem wit_MrsReadsStatus : (svc 0x10#32).passed .al = true ∧ (14 : Reg) ≠ 15 ∧ (svc 0x10#32).spsr = some 0x10#32 := by decide

theorem wit_MsrCpsr_immediate : State.reset.passed .al = true ∧
    0x10#32 = rotatedImm 0#4 0x10#8 ∧
    (∀ k, k < 32 → bit (0x10#32 : Word) k =
      if bit (1#4) (k / 8) = true ∧ (State.reset.modeBits = Mode.user.bits → 24 ≤ k) then bit (0x10#32 : Word) k
      else bit State.reset.cpsr k) ∧
    bit (0x10#32 : Word) 5 = State.reset.tbit ∧ validMode 0x10#32 = true := by decide

/-- In User mode only bits 31:24 are written. -/
theorem wit_MsrCpsr_user : (at1000 0x10#32 [(0, 0xF000001F#32)] []).passed .al = true ∧ (0 : Reg) ≠ 15 ∧
    0xF000001F#32 = (at1000 0x10#32 [(0, 0xF000001F#32)] []).reg 0 ∧
    (∀ k, k < 32 → bit (0xF0000010#32 : Word) k =
      if bit (9#4) (k / 8) = true ∧
        ((at1000 0x10#32 [(0, 0xF000001F#32)] []).modeBits = Mode.user.bits → 24 ≤ k) then bit (0xF000001F#32 : Word) k
      else bit (at1000 0x10#32 [(0, 0xF000001F#32)] []).cpsr k) ∧
    bit (0xF0000010#32 : Word) 5 = (at1000 0x10#32 [(0, 0xF000001F#32)] []).tbit ∧
    validMode 0xF0000010#32 = true := by decide

theorem wit_MsrSpsr : (svc 0#32).passed .al = true ∧ (14 : Reg) ≠ 15 ∧ (svc 0#32).bank.spsrSlot = some 27 := by decide

theorem wit_MsrSpsr_noSpsr : State.reset.passed .al = true ∧ (14 : Reg) ≠ 15 ∧ State.reset.spsr = none := by decide

theorem wit_NoSpsrStops (h : Obligations.NoSpsrStops) :
    ∃ r, exec (.ldm .al false true true false 14 0x8000#16) State.reset = State.reset.unpredictable r :=
  (h .al .mov 0#4 0#4 0#8 0#5 .lsl 14 14 15 15 14 false true false 0x8000#16 _ State.reset (by decide) (by decide)
    (by decide) (by decide) (by decide) (by decide) (by decide) (by simp)).2

theorem wit_MsrCpsr_changesT : (∀ k, k < 32 → bit (0x3F#32 : Word) k =
      if bit (1#4) (k / 8) = true ∧ (State.reset.modeBits = Mode.user.bits → 24 ≤ k) then
        bit (rotatedImm 0#4 0x3F#8) k
      else bit State.reset.cpsr k) ∧ bit (0x3F#32 : Word) 5 ≠ State.reset.tbit := by decide

theorem wit_MsrCpsr_invalidMode : (∀ k, k < 32 → bit (0#32 : Word) k =
      if bit (1#4) (k / 8) = true ∧ (State.reset.modeBits = Mode.user.bits → 24 ≤ k) then bit (rotatedImm 0#4 0#8) k
      else bit State.reset.cpsr k) ∧ bit (0#32 : Word) 5 = State.reset.tbit ∧ validMode 0#32 = false := by decide

theorem wit_MultiplyWord : State.reset.passed .al = true ∧ (0 : Reg) ≠ 15 ∧ (1 : Reg) ≠ 15 ∧ (14 : Reg) ≠ 15 ∧
    (0 : Reg) ≠ 1 ∧ (7 : LowReg) ≠ 6 := by decide

theorem wit_MultiplyLong : State.reset.passed .al = true ∧ (0 : Reg) ≠ 15 ∧ (1 : Reg) ≠ 15 ∧ (2 : Reg) ≠ 15 ∧
    (14 : Reg) ≠ 15 ∧ (0 : Reg) ≠ 1 ∧ (0 : Reg) ≠ 2 ∧ (1 : Reg) ≠ 2 := by decide

theorem wit_MultiplyStops : State.reset.passed .al = true ∧ (15 : Reg) = 15 := by decide

theorem wit_SingleLoads : State.reset.passed .al = true ∧
    transferPermitted false (.pre false) 15 15 (.imm 0xFFF#12) = true ∧
    transferPermitted true .post 0 14 (.reg 31#5 .ror 14) = true ∧ transferPermitted false .user 0 15 (.imm 0#12) = true ∧
    transferPermitted false (.pre true) 14 0 (.imm 0#12) = true := by decide

theorem wit_SingleStores : State.reset.passed .al = true ∧ transferPermitted false .post 0 15 (.imm 4#12) = true ∧
    transferPermitted true .user 0 1 (.reg 0#5 .lsr 1) = true := by decide

theorem wit_HalfTransfers : State.reset.passed .al = true ∧ halfPermitted true false 15 14 (.imm 0xFF#8) = true ∧
    halfPermitted false false 0 1 (.reg 14) = true ∧ halfPermitted true true 0 1 (.imm 0#8) = true := by decide

theorem wit_TransferStops : State.reset.passed .al = true ∧
    transferPermitted false (.pre false) 0 0 (.reg 0#5 .lsl 15) = false ∧
    transferPermitted false .post 15 0 (.imm 0#12) = false ∧ transferPermitted false (.pre true) 1 1 (.imm 0#12) = false ∧
    transferPermitted true (.pre false) 0 15 (.imm 0#12) = false ∧ halfPermitted false true 0 1 (.imm 0#8) = false ∧
    halfPermitted true false 0 15 (.imm 0#8) = false ∧ halfPermitted true false 0 1 (.reg 15) = false ∧
    halfPermitted true true 15 1 (.imm 0#8) = false ∧ halfPermitted false false 1 1 (.imm 0#8) = false := by decide

theorem wit_LdmLoadsRegisters : State.reset.passed .al = true ∧ (13 : Reg) ≠ 15 ∧ 0x2003#16 ≠ 0#16 ∧
    (true && inList 0x2003#16 13) = true ∧ (true && inList 0x0003#16 13) = false := by decide

theorem wit_Ldm_return : (svc 0x30#32).passed .al = true ∧ (13 : Reg) ≠ 15 ∧ 0x8001#16 ≠ 0#16 ∧
    inList 0x8001#16 15 = true ∧ (svc 0x30#32).spsr = some 0x30#32 ∧ validMode 0x30#32 = true := by decide

theorem wit_LdmUserBank : (svc 0#32).passed .al = true ∧ (0 : Reg) ≠ 15 ∧ 0x6000#16 ≠ 0#16 ∧
    inList 0x6000#16 15 = false ∧ (svc 0#32).spsr ≠ none := by decide

theorem wit_StmStoresRegisters : (svc 0#32).passed .al = true ∧ (0 : Reg) ≠ 15 ∧ 0x8001#16 ≠ 0#16 ∧ (svc 0#32).spsr ≠ none ∧
    inList 0x8001#16 15 = true ∧ ((false : Bool) = true → State.reset.spsr ≠ none) := by decide

theorem wit_BlockStops : State.reset.passed .al = true ∧ State.reset.spsr = none ∧ inList 0x7FFF#16 15 = false := by
  decide

theorem wit_BlockStops_invalidMode : (svc 0#32).passed .al = true ∧ (0 : Reg) ≠ 15 ∧ inList 0x8000#16 15 = true ∧
    (svc 0#32).spsr = some 0#32 ∧ validMode 0#32 = false := by decide

theorem wit_Swap : State.reset.passed .al = true ∧ (0 : Reg) ≠ 15 ∧ (1 : Reg) ≠ 15 ∧ (14 : Reg) ≠ 15 ∧ (14 : Reg) ≠ 0 ∧
    (14 : Reg) ≠ 1 := by decide

theorem wit_BranchAndLink : State.reset.passed .al = true ∧ State.reset.tbit = false := by decide

theorem wit_BranchExchange : State.reset.passed .al = true ∧ ((at1000 0x1F#32 [(0, 3#32)] []).reg 0).toNat % 4 ≠ 2 ∧
    ((at1000 0x1F#32 [(0, 0xFFFFFFFE#32)] []).reg 0).toNat % 4 = 2 := by decide

theorem wit_Traps : State.reset.passed .al = true ∧ (at1000 0x10#32 [] []).passed .al = true := by decide

theorem wit_UnsupportedStops :
    let s : State := { State.reset with decoded := 0x00400090#32 }
    s.tbit = false ∧ s.decoded = 0x00400090#32 ∧ isReservedMultiply s.decoded = true ∧ Ready s :=
  ⟨by decide, by decide, by decide, by decide, by decide, by decide⟩

theorem wit_UnsupportedStops_classes : isReservedSwap 0xE1200090#32 = true ∧
    isReservedHalfwordStore 0xE1C000D0#32 = true ∧ isReservedMisc 0xE12FFF30#32 = true ∧
    isReservedImmMisc 0xE3000000#32 = true := by decide

/-- For the statements over a list of forms: the hypotheses at the last form of the list, at the ends of the ranges. -/
theorem wit_SetBShifts (h : Obligations.SetBShifts) : ∃ t, exec (.bRorReg 7 0) inB = .next t :=
  let ⟨t, ht, _⟩ := h (.bRorReg 7 0) 7 0 31#5 (shift .ror ((inB.low 7).toNat % 256) true (inB.low 0) inB.flagC) inB (by simp)
  ⟨t, ht⟩

theorem wit_SetBDataProcessing (h : Obligations.SetBDataProcessing) : ∃ t, exec (.bCmnAlu 7 0) inB = .next t :=
  let ⟨t, ht, _⟩ := h (.bCmnAlu 7 0) .cmn (inB.low 0) (inB.low 7) 7 7 0 7#3 255#8 inB (by simp)
  ⟨t, ht⟩

theorem wit_HiRegisters : (8 : Reg) ≤ 8 ∧ (8 : Reg) ≤ 15 ∧ (7 : Reg) < 8 := by decide

theorem wit_SetBLoads (h : Obligations.SetBLoads) : ∃ t, exec (.bLdrSp 7 255#8) inB = .next t :=
  let ⟨t, ht, _⟩ := h (.bLdrSp 7 255#8) .word (inB.reg 13 + BitVec.ofNat 32 (4 * (255#8).toNat)) 0 0 7 31#5 255#8 inB (by decide)
    (by simp)
  ⟨t, ht⟩

theorem wit_SetBStores (h : Obligations.SetBStores) : ∃ t, exec (.bStrSp 7 255#8) inB = .next t :=
  let ⟨t, ht, _⟩ := h (.bStrSp 7 255#8) .word (inB.reg 13 + BitVec.ofNat 32 (4 * (255#8).toNat)) 0 0 7 31#5 255#8 inB (by simp)
  ⟨t, ht⟩

theorem wit_AddressArithmetic (h : Obligations.AddressArithmetic) : ∃ t, exec (.bSubSpImm 127#7) inB = .next t :=
  let ⟨t, ht, _⟩ := h (.bSubSpImm 127#7) 13 (inB.reg 13 - BitVec.ofNat 32 (4 * (127#7).toNat)) 7 255#8 127#7 inB (by decide)
    (by simp)
  ⟨t, ht⟩

theorem wit_PushPop : stackList 0#8 true 14 ≠ 0#16 ∧ stackList 0x80#8 false 15 ≠ 0#16 := by decide

theorem wit_StmiaLdmia : (7 : Reg) = Fin.ofNat 16 (7 : LowReg).val ∧ 0x80#16 = (0x80#8).setWidth 16 ∧ 0x80#8 ≠ 0#8 := by
  decide

theorem wit_SetBBranches (h : Obligations.SetBBranches) : ∃ t, exec (.bBle 0x80#8) (inB.setCpsr 0x4000003F#32) = .next t :=
  let ⟨t, ht, _⟩ := h (.bBle 0x80#8) .le _ 0x80#8 0#11 (inB.setCpsr 0x4000003F#32) (by decide)
    (.inl ⟨by simp, by decide, rfl⟩)
  ⟨t, ht⟩

theorem wit_LongBranch : inB.tbit = true := by decide

theorem wit_StepRunsDecoded : Ready State.reset ∧ State.reset.tbit = false ∧ State.reset.trace = none ∧
    (HostPort.attachTrace true State.reset).trace = some [] :=
  ⟨⟨by decide, by decide, by decide⟩, by decide, by decide, by decide⟩

theorem wit_StepRunsDecoded_setB : Ready inB ∧ inB.tbit = true := ⟨⟨by decide, by decide, by decide⟩, by decide⟩

/-- The two decodings that statement writes out are the one the driver makes. -/
theorem test_code : State.reset.code = .setA State.reset.decoded ∧ inB.code = .setB (inB.decoded.setWidth 16) := by decide

theorem wit_EndOfTick : State.reset.haltFlag = false ∧ State.reset.branchPending = false ∧
    (State.reset.writePc 2#32).branchPending = true ∧ (HostPort.halt true State.reset).haltFlag = true := by decide

theorem wit_IrqEntry :
    let s := HostPort.irq true State.reset
    s.driver = .running ∧ s.branchPending = false ∧ s.irqLine = true ∧ s.ibit = false := by decide

theorem wit_HaltAndStop :
    let s : State := { State.reset with driver := .halted, haltFlag := true }
    s.driver = .halted ∧ s.stopRequest = false ∧ s.haltFlag = true ∧ s.haltTask = false ∧
      (HostPort.stop s).stopRequest = true ∧ (HostPort.halt false s).haltFlag = false := by decide

theorem wit_SetChangesWithRefill : ∃ t : State, exec (.bx .al 0) (at1000 0x1F#32 [(0, 1#32)] []) = .next t ∧
    t.tbit ≠ (at1000 0x1F#32 [(0, 1#32)] []).tbit := ⟨_, rfl, by decide⟩

theorem wit_UserModeConfined : (at1000 0x10#32 [] []).modeBits = Mode.user.bits ∧
    isTrap (.msrImm .al .cpsr 9#4 2#4 0xFF#8) = false ∧
    ∃ t : State, exec (.msrImm .al .cpsr 9#4 2#4 0xFF#8) (at1000 0x10#32 [] []) = .next t :=
  ⟨by decide, by decide, _, rfl⟩

theorem wit_SpsrWriters : Mode.supervisor.spsrSlot = some 27 ∧
    ∃ t : State, exec (.swi .al 0#24) State.reset = .next t ∧ t.slot 27 ≠ State.reset.slot 27 :=
  ⟨by decide, _, rfl, by decide⟩

theorem wit_SpsrWriters_msr : Mode.supervisor.spsrSlot = some 27 ∧
    ∃ t : State, exec (.msrImm .al .spsr 15#4 0#4 1#8) (svc 0#32) = .next t ∧ t.slot 27 ≠ (svc 0#32).slot 27 :=
  ⟨by decide, _, rfl, by decide⟩

theorem wit_HostFlagsKept :
    let s : State := { State.reset with driver := .halted, haltFlag := true, stopRequest := true }
    ∃ t : State, step s = .next t ∧ t.haltFlag ≠ s.haltFlag := ⟨_, rfl, by decide⟩

theorem wit_InvariantKept : Inv State.reset ∧ ∃ t : State, step State.reset = .next t :=
  ⟨⟨by decide, by decide, fun _ => by unfold aligned; decide, fun _ h => absurd h (by decide)⟩, _, rfl⟩

theorem wit_RoundTrip : (Instr.unsupportedSwap 0xF1F000F0#32).wellFormed = false ∧
    (Instr.unsupportedSwap 0xF1F00F9F#32).wellFormed = true ∧ (Instr.ldm .nv true true true true 15 0xFFFF#16).wellFormed = true := by
  decide

end Sys2Proof.Tests
end

/-! PROOFS. The statements about the state of the core (10_state.md): the banking map, the SPSRs, the host's flags and
the invariant every step keeps. -/

namespace Sys2Proof.Machine

open Sys2Proof.Safety

/-! ### The fetch unit of the active set (R15, R90) -/

namespace State

theorem inc_congr {s t : State} (h : t.tbit = s.tbit) : t.inc = s.inc := by simp [inc, h]

theorem tbit_congr {s t : State} (h : t.cpsr = s.cpsr) : t.tbit = s.tbit := by simp [tbit, h]

theorem inc_eq_bytes (s : State) : s.inc = BitVec.ofNat 32 s.fetchWidth.bytes := by
  unfold inc fetchWidth; cases s.tbit <;> rfl

theorem fetchWidth_bytes (s : State) : s.fetchWidth.bytes = 2 ∨ s.fetchWidth.bytes = 4 := by
  unfold fetchWidth; cases s.tbit
  · exact .inr rfl
  · exact .inl rfl

theorem fetchWidth_congr {s t : State} (h : t.tbit = s.tbit) : t.fetchWidth = s.fetchWidth := by simp [fetchWidth, h]

/-- What a fetch answers in Set-B is a halfword (R49, R83). -/
theorem answer_fetch_lt {s : State} (h : s.tbit = true) (i : Nat) (a : Word) :
    (s.answer i s.fetchWidth a).toNat < 65536 := by
  have hw : s.fetchWidth = .half := by simp [fetchWidth, h]
  simpa [hw, Width.bytes] using answer_toNat_lt s i s.fetchWidth a

end State

/-- A PC is aligned when the bytes of one fetch divide it. -/
theorem aligned_iff (s : State) : aligned s ↔ (s.slot 15).toNat % s.fetchWidth.bytes = 0 := by
  unfold aligned State.inc State.fetchWidth
  rw [← BitVec.toNat_inj]
  cases s.tbit
  · have h4 : (s.slot 15).toNat &&& 3 = (s.slot 15).toNat % 4 := Nat.and_two_pow_sub_one_eq_mod _ 2
    simp [Width.bytes, h4]
  · simp [Width.bytes]

theorem aligned_refill (s : State) : aligned s.refill := by
  have hd := Width.toNat_alignDown s.fetchWidth (s.slot 15)
  rw [Width.alignDown] at hd
  rw [aligned_iff, State.fetchWidth_congr (State.tbit_congr s.cpsr_refill), State.slot_refill, if_pos rfl,
    State.inc_eq_bytes, BitVec.toNat_add, hd]
  rcases s.fetchWidth_bytes with h | h <;> rw [h] <;> simp

theorem aligned_advance {s : State} (h : aligned s) : aligned s.advance := by
  rw [aligned_iff] at h ⊢
  rw [State.fetchWidth_congr (State.tbit_congr s.cpsr_advance), State.slot_advance, if_pos rfl, State.inc_eq_bytes,
    BitVec.toNat_add]
  rcases s.fetchWidth_bytes with hb | hb <;> rw [hb] at h ⊢ <;> simp <;> omega

theorem halfwordSlots_refill (s : State) : halfwordSlots s.refill := fun ht =>
  have ht : s.tbit = true := State.tbit_congr s.cpsr_refill ▸ ht
  ⟨State.answer_fetch_lt ht 0 _, State.answer_fetch_lt ht 1 _⟩

theorem halfwordSlots_advance {s : State} (h : halfwordSlots s) : halfwordSlots s.advance := fun ht =>
  have ht : s.tbit = true := State.tbit_congr s.cpsr_advance ▸ ht
  ⟨(h ht).2, State.answer_fetch_lt ht 0 _⟩

/-! ### The mode field (R45) -/

theorem validMode_congr {s t : State} (h : t.modeBits = s.modeBits) : validMode t.cpsr = validMode s.cpsr :=
  congrArg (fun b => (Mode.ofBits b).isSome) h

theorem validMode_of_modeBits {s : State} {m : Mode} (h : s.modeBits = m.bits) : validMode s.cpsr = true := by
  show (Mode.ofBits s.modeBits).isSome = true
  rw [h, Mode.ofBits_bits, Option.isSome_some]

theorem bank_of_modeBits {s : State} {m : Mode} (h : s.modeBits = m.bits) : s.bank = m := by
  simp [State.bank, h]

theorem modeBits_setT (s : State) (b : Bool) : (s.setT b).modeBits = s.modeBits := by
  unfold State.modeBits
  rw [State.cpsr_setT, field_withBit s.cpsr 5 b 0 5 (by omega) (.inr (by omega))]

/-! ### The invariant through a tick -/

@[simp] theorem mem_enterException (m : Mode) (vector link : Word) (s : State) :
    (enterException m vector link s).mem = s.mem := by simp [enterException]

/-- While a branch is pending the invariant asks for the memory and the mode alone. -/
theorem inv_of_pending {s : State} (hm : s.mem.wf = true) (hv : validMode s.cpsr = true)
    (hp : s.branchPending = true) : Inv s :=
  ⟨hm, hv, fun h => by simp [hp] at h, fun h => by simp [hp] at h⟩

theorem inv_refill {s : State} (h : Inv s) : Inv s.refill :=
  ⟨h.memory, s.cpsr_refill ▸ h.mode, fun _ => aligned_refill s, fun _ => halfwordSlots_refill s⟩

theorem inv_advance {s : State} (h : Inv s) : Inv s.advance :=
  ⟨h.memory, s.cpsr_advance ▸ h.mode, fun hp => aligned_advance (h.pc hp), fun hp => halfwordSlots_advance (h.slots hp)⟩

theorem inv_enterException {s : State} (h : Inv s) (m : Mode) (vector link : Word) :
    Inv (enterException m vector link s) :=
  inv_of_pending (by simpa using h.memory) (validMode_of_modeBits (modeBits_enterException m vector link s)) rfl

theorem inv_settle {s : State} (h : Inv s) : Inv s.settle := by
  unfold State.settle
  split
  · exact inv_refill h
  · exact h

theorem inv_interruptCheck {s : State} (h : Inv s) : Inv s.interruptCheck := by
  unfold State.interruptCheck
  split
  · exact inv_refill (inv_enterException h ..)
  · exact h

theorem inv_traced {s : State} (h : Inv s) : Inv s.traced := by
  unfold State.traced
  split
  · exact h
  · exact ⟨h.memory, h.mode, h.pc, h.slots⟩

theorem inv_ready {s : State} (h : Inv s) : Inv s.ready := inv_traced (inv_interruptCheck (inv_settle h))

theorem inv_endTick {s : State} (h : Inv s) : Inv s.endTick := by
  have hm : Inv (if s.branchPending then s.refill else s.advance) := by
    split
    · exact inv_refill h
    · exact inv_advance h
  exact ⟨hm.memory, hm.mode, hm.pc, hm.slots⟩

theorem inv_afterExecute {s : State} (h : Inv s) : Inv s.afterExecute := by
  unfold State.afterExecute
  split
  · exact ⟨h.memory, h.mode, h.pc, h.slots⟩
  · exact inv_endTick h

theorem inv_poll {s : State} (h : Inv s) : Inv s.poll := by
  have hu : Inv (if s.pollsTask then s.drew 1 else s) := by
    split
    · exact ⟨h.memory, h.mode, h.pc, h.slots⟩
    · exact h
  unfold State.poll
  dsimp only
  split
  · exact inv_endTick ⟨hu.memory, hu.mode, hu.pc, hu.slots⟩
  · exact hu

/-- An operation that leaves R15, the set and the pipeline words unless it signals a branch keeps the invariant. -/
theorem inv_of_same {s t : State} (h : Inv s) (hm : t.mem.wf = true) (hv : validMode t.cpsr = true)
    (ht : t.tbit = s.tbit) (hd : t.decoded = s.decoded) (hf : t.prefetched = s.prefetched)
    (hp : t.branchPending = false → s.branchPending = false ∧ t.slot 15 = s.slot 15) : Inv t where
  memory := hm
  mode := hv
  pc hb := by
    obtain ⟨hs, h15⟩ := hp hb
    unfold aligned
    rw [h15, State.inc_congr ht]
    exact h.pc hs
  slots hb htb := by
    rw [hd, hf]
    exact h.slots (hp hb).1 (ht ▸ htb)

theorem inv_plain {s t : State} (h : Inv s) (hp : Plain s t) : Inv t :=
  inv_of_same h (hp.memory h.memory) ((validMode_congr hp.modeBits).trans h.mode) hp.tbit hp.outside.decoded
    hp.outside.prefetched hp.pc

/-- No instruction leaves the invariant (R45, R49, R90). -/
theorem Does.inv {i : Instr} {s t : State} (hd : Does i s t) (h : Inv s) : Inv t := by
  cases hd with
  | plain hp => exact inv_plain h hp
  | entered m vector link _ _ => exact inv_enterException h ..
  | status v ht hv _ =>
    exact inv_of_same h h.memory (by simpa using hv) (by simpa [State.tbit] using ht) rfl rfl
      fun hb => ⟨hb, by simp⟩
  | saved v old _ ho =>
    obtain ⟨k, hk, -⟩ := spsr_eq_some.1 ho
    have h15 : (15 : Fin 37) ≠ k := fun e => spsrSlot_ne_regSlot hk .user 15 e.symm
    exact inv_of_same h (by simpa using h.memory) (by simpa using h.mode) (State.tbit_congr (by simp)) (by simp)
      (by simp) fun hb => ⟨by simpa using hb, by simp [slot_setSpsr hk, h15]⟩
  | switched b a =>
    refine inv_of_pending h.memory ?_ rfl
    rw [State.cpsr_writePc]
    exact (validMode_congr (modeBits_setT s b)).trans h.mode
  | @returned u _ v a hu _ hv ht =>
    have hb : Inv ((u.setCpsr v).writePc a) := inv_of_pending (hu.memory h.memory) (by simpa using hv) rfl
    exact inv_plain hb ht

/-! ### One step, by the driver's state -/

/-- The three ways a step answers a next state (R540, R547, R550). -/
theorem step_eq_next {s t : State} :
    step s = .next t ↔ (s.driver = .stopped ∧ t = s) ∨ (s.driver = .halted ∧ t = s.poll) ∨
      (s.driver = .running ∧ ∃ u, exec (decode s.ready.code) s.ready = .next u ∧ t = u.afterExecute) := by
  unfold step stepOnce tick execute
  cases s.driver <;> simp [andThen_eq_next, eq_comm (b := t)]

/-- Settles O57: an instruction keeps the invariant (`Does.inv`), and so does every part of the tick around it. -/
theorem invariantKept : Obligations.InvariantKept := by
  intro s t h hs
  rcases step_eq_next.1 hs with ⟨-, rfl⟩ | ⟨-, rfl⟩ | ⟨-, u, hu, rfl⟩
  · exact h
  · exact inv_poll h
  · exact inv_afterExecute ((exec_does _ _ u hu).inv (inv_ready h))

/-- Settles O56. -/
theorem invariantAtReset : Obligations.InvariantAtReset where
  memory := wf_reset
  mode := rfl
  pc _ := by unfold aligned; decide
  slots _ ht := absurd ht (by decide)

/-! ### The banking map (R33) -/

/-- The register a slot belongs to, whatever the mode; of the status words, which belong to none, any value will do. -/
def regOfSlot (k : Fin 37) : Reg :=
  if k.val < 16 then Fin.ofNat 16 k.val
  else if k.val < 24 then Fin.ofNat 16 (k.val - 9)
  else if k.val % 3 = 1 then 13
  else 14

theorem regOfSlot_regSlot (m : Mode) (r : Reg) : regOfSlot (regSlot m r) = r := by
  cases m <;> revert r <;> decide

/-- Two modes share the slot of a register: the register is banked in neither or in the same way in both. -/
abbrev sharesSlot (m m' : Mode) (r : Reg) : Prop :=
  r < 8 ∨ r = 15 ∨ (r < 13 ∧ (m = .fiq ↔ m' = .fiq)) ∨ m = m' ∨ (m ∈ [.user, .system] ∧ m' ∈ [.user, .system])

theorem regSlot_eq_iff_sharesSlot (m m' : Mode) (r : Reg) : regSlot m' r = regSlot m r ↔ sharesSlot m m' r := by
  unfold sharesSlot
  cases m <;> cases m' <;> revert r <;> decide

/-- Across modes a slot is shared only by one and the same register. -/
theorem regSlot_eq_regSlot (m m' : Mode) (r q : Reg) : regSlot m' q = regSlot m r ↔ q = r ∧ sharesSlot m m' r := by
  constructor
  · intro h
    have hq : q = r := by rw [← regOfSlot_regSlot m' q, h, regOfSlot_regSlot]
    subst hq
    exact ⟨rfl, (regSlot_eq_iff_sharesSlot m m' q).1 h⟩
  · rintro ⟨rfl, h⟩
    exact (regSlot_eq_iff_sharesSlot m m' q).2 h

theorem physicalSlot_reg (m : Mode) (r : Reg) : physicalSlot m (Fin.ofNat 18 r.val) = some (regSlot m r) := by
  cases m <;> revert r <;> decide

theorem physicalSlot_spsr (m : Mode) : physicalSlot m 17 = m.spsrSlot := rfl

theorem reg_setMode (s : State) (m : Mode) (r : Reg) : (s.setMode m).reg r = s.slot (regSlot m r) := by
  unfold State.reg
  rw [State.bank_setMode, State.setMode, State.slot_setCpsr, if_neg (regSlot_ne_cpsr m r)]

/-- A register written in one mode, read in another. -/
theorem reg_setMode_setReg (s : State) (m m' : Mode) (r q : Reg) (v : Word) :
    (((s.setMode m).setReg r v).setMode m').reg q =
      if q = r ∧ sharesSlot m m' r then v else (s.setMode m').reg q := by
  rw [reg_setMode, reg_setMode, State.slot_setReg, State.bank_setMode, State.setMode, State.slot_setCpsr,
    if_neg (regSlot_ne_cpsr m' q)]
  simp only [regSlot_eq_regSlot]

/-- The numbers of the slots (R31-R33). -/
theorem physicalSlot_numbers (i : Fin 18) :
    (∀ m ∈ [Mode.user, .system], (physicalSlot m i).map Fin.val = if i = 17 then none else some i.val) ∧
    (physicalSlot .fiq i).map Fin.val = some (if 8 ≤ i ∧ i ≤ 14 then i.val + 9 else if i = 17 then 24 else i.val) ∧
    ∀ p ∈ [(Mode.supervisor, 25), (.abort, 28), (.irq, 31), (.undefined, 34)],
      (physicalSlot p.1 i).map Fin.val =
        some (if i = 13 then p.2 else if i = 14 then p.2 + 1 else if i = 17 then p.2 + 2 else i.val) := by
  revert i; decide

/-- Settles O2: the slot numbers, an access as the slot of the current mode, and where two modes share a slot. -/
theorem bankingMap : Obligations.BankingMap := by
  refine ⟨physicalSlot_numbers, fun s m r h => ?_, fun s m m' r q v => ?_⟩
  · rw [physicalSlot_reg, physicalSlot_spsr, State.reg, State.spsr, bank_of_modeBits h]
    exact ⟨rfl, rfl⟩
  · exact reg_setMode_setReg s m m' r q v

/-! ### The writers of an SPSR (R47) -/

theorem spsrSlot_inj {m m' : Mode} {k : Fin 37} (h : m.spsrSlot = some k) (h' : m'.spsrSlot = some k) : m = m' := by
  cases m <;> cases m' <;> revert k <;> decide

/-- The SPSRs are no registers, so a plain operation leaves all of them. -/
theorem Plain.spsr_slot {s t : State} (h : Plain s t) {m : Mode} {k : Fin 37} (hk : m.spsrSlot = some k) :
    t.slot k = s.slot k :=
  h.others k (spsrSlot_ne_cpsr hk) (fun r => spsrSlot_ne_regSlot hk _ r) (fun r => spsrSlot_ne_regSlot hk _ r)

/-- An exception entry leaves every SPSR but that of the mode it enters. -/
theorem spsr_slot_enterException {m n : Mode} {k : Fin 37} (hk : m.spsrSlot = some k) (hn : n.spsrSlot.isSome)
    (hne : m ≠ n) (vector link : Word) (s : State) : (enterException n vector link s).slot k = s.slot k := by
  obtain ⟨j, hj⟩ := Option.isSome_iff_exists.1 hn
  have hkj : k ≠ j := fun e => hne (spsrSlot_inj hk (e ▸ hj))
  have h15 : k ≠ 15 := spsrSlot_ne_regSlot hk .user 15
  rw [slot_enterException hj, if_neg h15, if_neg (spsrSlot_ne_cpsr hk), if_neg (spsrSlot_ne_regSlot hk n 14), if_neg hkj]

/-- What an instruction can do to an SPSR. -/
theorem Does.spsr_slot {i : Instr} {s t : State} (hd : Does i s t) {m : Mode} {k : Fin 37} (hk : m.spsrSlot = some k) :
    t.slot k = s.slot k ∨ (isTrap i = true ∧ (m = .supervisor ∨ m = .undefined)) ∨
      (isMsrSpsr i = true ∧ s.bank = m) := by
  have h15 : k ≠ 15 := spsrSlot_ne_regSlot hk .user 15
  have h16 : k ≠ 16 := spsrSlot_ne_cpsr hk
  cases hd with
  | plain hp => exact .inl (hp.spsr_slot hk)
  | entered n vector link hi hn =>
    by_cases hmn : m = n
    · exact .inr (.inl ⟨hi, hmn ▸ hn⟩)
    · exact .inl (spsr_slot_enterException hk (by rcases hn with rfl | rfl <;> rfl) hmn vector link s)
  | status v _ _ _ => exact .inl (by simp [h16])
  | saved v old hi ho =>
    obtain ⟨j, hj, -⟩ := spsr_eq_some.1 ho
    by_cases hkj : k = j
    · exact .inr (.inr ⟨hi, spsrSlot_inj hj (hkj ▸ hk)⟩)
    · exact .inl (by rw [slot_setSpsr hj, if_neg hkj])
  | switched b a => exact .inl (by simp [State.setT, h15, h16])
  | @returned u _ v a hu _ _ ht =>
    have hm : ((u.setCpsr v).writePc a).slot k = u.slot k := by simp [h15, h16]
    exact .inl (((ht.spsr_slot hk).trans hm).trans (hu.spsr_slot hk))

/-- Settles O54: an exception entry writes the SPSR of its mode, MSR that of the current mode, nothing else one. -/
theorem spsrWriters : Obligations.SpsrWriters := fun i s t _ _ hk ht hne =>
  ((exec_does i s t ht).spsr_slot hk).resolve_left hne

/-! ### The flags of the host (R52, R53) -/

/-- The flags only the host moves are the same. -/
structure SameHost (s t : State) : Prop where
  irqLine : t.irqLine = s.irqLine
  stopRequest : t.stopRequest = s.stopRequest
  haltTask : t.haltTask = s.haltTask
  haltFlag : t.haltFlag = s.haltFlag

namespace SameHost

theorem refl (s : State) : SameHost s s := ⟨rfl, rfl, rfl, rfl⟩

theorem trans {s t u : State} (h : SameHost s t) (g : SameHost t u) : SameHost s u :=
  ⟨g.irqLine.trans h.irqLine, g.stopRequest.trans h.stopRequest, g.haltTask.trans h.haltTask,
    g.haltFlag.trans h.haltFlag⟩

theorem of_outside {s t : State} (h : SameOutside s t) : SameHost s t :=
  ⟨h.irqLine, h.stopRequest, h.haltTask, h.haltFlag⟩

theorem refill (s : State) : SameHost s s.refill := ⟨rfl, rfl, rfl, rfl⟩

theorem advance (s : State) : SameHost s s.advance := ⟨rfl, rfl, rfl, rfl⟩

theorem settle (s : State) : SameHost s s.settle := by
  unfold State.settle
  split
  · exact refill s
  · exact refl s

theorem interruptCheck (s : State) : SameHost s s.interruptCheck := by
  unfold State.interruptCheck
  split
  · exact (of_outside (outside_enterException ..)).trans (refill _)
  · exact refl s

theorem traced (s : State) : SameHost s s.traced := by
  unfold State.traced
  split
  · exact refl s
  · exact ⟨rfl, rfl, rfl, rfl⟩

theorem ready (s : State) : SameHost s s.ready := ((settle s).trans (interruptCheck _)).trans (traced _)

theorem endTick (s : State) : SameHost s s.endTick := by
  have hm : SameHost s (if s.branchPending then s.refill else s.advance) := by
    split
    · exact refill s
    · exact advance s
  exact ⟨hm.irqLine, hm.stopRequest, hm.haltTask, hm.haltFlag⟩

theorem afterExecute (s : State) : SameHost s s.afterExecute := by
  unfold State.afterExecute
  split
  · exact ⟨rfl, rfl, rfl, rfl⟩
  · exact endTick s

/-- A poll leaves the flags, or ends the halt and leaves the others. -/
theorem poll (s : State) : SameHost s s.poll ∨ SameHost { s with haltFlag := false } s.poll := by
  have hu : SameHost s (if s.pollsTask then s.drew 1 else s) := by
    split
    · exact ⟨rfl, rfl, rfl, rfl⟩
    · exact refl s
  unfold State.poll
  dsimp only
  split
  · refine .inr (trans ?_ (endTick _))
    exact ⟨hu.irqLine, hu.stopRequest, hu.haltTask, rfl⟩
  · exact .inl hu

end SameHost

/-- A step leaves the flags of the host, or ends a halt. -/
theorem step_sameHost {s t : State} (h : step s = .next t) :
    SameHost s t ∨ (s.driver = .halted ∧ SameHost { s with haltFlag := false } t) := by
  rcases step_eq_next.1 h with ⟨-, rfl⟩ | ⟨hd, rfl⟩ | ⟨-, u, hu, rfl⟩
  · exact .inl (.refl _)
  · exact (SameHost.poll s).imp_right fun hp => ⟨hd, hp⟩
  · exact .inl (((SameHost.ready s).trans (.of_outside (exec_does _ _ u hu).outside)).trans (.afterExecute u))

/-- Settles O55. -/
theorem hostFlagsKept : Obligations.HostFlagsKept := by
  intro s t h
  rcases step_sameHost h with hk | ⟨hd, hk⟩
  · exact ⟨hk.irqLine, hk.stopRequest, hk.haltTask, fun hne => absurd hk.haltFlag hne⟩
  · exact ⟨hk.irqLine, hk.stopRequest, hk.haltTask, fun _ => ⟨hd, hk.haltFlag⟩⟩

/-! ### No SPSR in User and System mode (R34) -/

theorem spsrSlot_bank_eq_none {s : State} (h : s.modeBits ∈ [Mode.user.bits, Mode.system.bits]) :
    s.bank.spsrSlot = none := by
  rcases List.mem_pair.1 h with h | h <;> rw [bank_of_modeBits h] <;> rfl

theorem ifPassed_of_passed {c : Cond} {s : State} (h : s.passed c = true) (go : Result) : ifPassed c s go = go :=
  if_pos h

@[simp] theorem checked_none (s : State) (go : Result) : checked none s go = go := rfl

@[simp] theorem checked_some (r : Reason) (s : State) (go : Result) : checked (some r) s go = s.unpredictable r := rfl

/-- The immediate form is the common procedure (R220); TST, TEQ, CMP and CMN always set the flags. -/
theorem exec_dpImm (op : DpOp) (cond : Cond) (sf : Bool) (rn rd : Reg) (rotate : BitVec 4) (imm8 : BitVec 8)
    (s : State) : exec (Instr.dpImm op cond sf rn rd rotate imm8) s =
      dataProc op cond (!writesRd op || sf) rn rd (operandImm rotate imm8 s.flagC) s := by
  cases op <;> rfl

/-- As `exec_dpImm`, for the form shifted by an immediate. -/
theorem exec_dpRegImm (op : DpOp) (cond : Cond) (sf : Bool) (rn rd : Reg) (amount : BitVec 5) (sh : ShiftType)
    (rm : Reg) (s : State) : exec (Instr.dpRegImm op cond sf rn rd amount sh rm) s =
      dataProc op cond (!writesRd op || sf) rn rd (s.operandRegImm amount sh rm) s := by
  cases op <;> rfl

section NoSpsr

variable {s : State} (hs : s.spsr = none)
include hs

theorem writePsr_spsr_of_none (mask : BitVec 4) (val : Word) :
    writePsr .spsr mask val s = s.unpredictable .noSpsr := by simp [writePsr, writeSpsrByMsr, hs]

theorem copySpsrToCpsr_of_none : copySpsrToCpsr s = s.unpredictable .noSpsr := by simp [copySpsrToCpsr, hs]

variable {cond : Cond} (hc : s.passed cond = true)
include hc

theorem execMrs_spsr_of_none {rd : Reg} (hrd : rd ≠ 15) : execMrs cond .spsr rd s = s.unpredictable .noSpsr := by
  simp [execMrs, ifPassed_of_passed hc, hrd, State.readPsr, hs]

theorem execMsrReg_spsr_of_none {rm : Reg} (hrm : rm ≠ 15) (mask : BitVec 4) :
    execMsrReg cond .spsr mask rm s = s.unpredictable .noSpsr := by
  simp [execMsrReg, ifPassed_of_passed hc, hrm, writePsr_spsr_of_none hs]

theorem execMsrImm_spsr_of_none (mask rotate : BitVec 4) (imm8 : BitVec 8) :
    execMsrImm cond .spsr mask rotate imm8 s = s.unpredictable .noSpsr := by
  rw [execMsrImm, ifPassed_of_passed hc, writePsr_spsr_of_none hs]

theorem dataProc_r15_of_none {op : DpOp} (hw : writesRd op = true) (rn : Reg) (op2 : Shifted) :
    dataProc op cond true rn 15 op2 s = s.unpredictable .noSpsr := by
  rw [dataProc, ifPassed_of_passed hc, hw]
  simp [writeDp, copySpsrToCpsr_of_none hs, State.unpredictable, andThen]

end NoSpsr

/-- The S = 1 forms of LDM stop on the mode, if on no earlier restriction (R314). -/
theorem execLdm_of_no_spsr {s : State} (hb : s.bank.spsrSlot = none) {cond : Cond} (hc : s.passed cond = true)
    (pre up wb : Bool) (rn : Reg) (rlist : BitVec 16) :
    ∃ r, execLdm cond pre up true wb rn rlist s = s.unpredictable r := by
  have hv : blockViolation s true wb rn rlist ≠ none := fun h => by
    have := firstViolation_eq_none.1 h (true && s.bank.spsrSlot.isNone, .userBankMode) (by simp)
    simp [hb] at this
  obtain ⟨r, hr⟩ := Option.ne_none_iff_exists'.1 hv
  exact ⟨r, by rw [execLdm, ifPassed_of_passed hc, hr, checked_some]⟩

/-- Settles O21: MRS, MSR and data processing find no SPSR, LDM is refused by its mode. -/
theorem noSpsrStops : Obligations.NoSpsrStops := by
  intro cond op mask rotate imm8 amount sh rd rm rn ra rb pre up wb rlist i s hc hm hrd hrm _ hw _ hi
  have hb := spsrSlot_bank_eq_none hm
  have hs : s.spsr = none := by simp [State.spsr, hb]
  refine ⟨hs, ?_⟩
  simp only [List.mem_cons, List.not_mem_nil, or_false] at hi
  rcases hi with rfl | rfl | rfl | rfl | rfl | rfl
  · exact ⟨.noSpsr, execMrs_spsr_of_none hs hc hrd⟩
  · exact ⟨.noSpsr, execMsrReg_spsr_of_none hs hc hrm mask⟩
  · exact ⟨.noSpsr, execMsrImm_spsr_of_none hs hc mask rotate imm8⟩
  · exact ⟨.noSpsr, by rw [exec_dpImm, Bool.or_true, dataProc_r15_of_none hs hc hw]⟩
  · exact ⟨.noSpsr, by rw [exec_dpRegImm, Bool.or_true, dataProc_r15_of_none hs hc hw]⟩
  · exact execLdm_of_no_spsr hb hc pre up wb rb rlist

end Sys2Proof.Machine

/-! PROOFS. The statements about the memory port (20_memory.md): the bytes of an access, a read after writes, the
canonical form of memory and the load helpers. -/

namespace Sys2Proof

/-! ### A word and its bytes (R82) -/

theorem getLsbD_byteOf {n : Nat} (w : BitVec n) (i j : Nat) :
    (byteOf w i).getLsbD j = (decide (j < 8) && w.getLsbD (8 * i + j)) := by simp [byteOf, field]

theorem toNat_byteOf {n : Nat} (w : BitVec n) (i : Nat) : (byteOf w i).toNat = w.toNat / 256 ^ i % 256 := by
  simp [byteOf, field, BitVec.extractLsb'_toNat, Nat.shiftRight_eq_div_pow, Nat.pow_mul]

theorem byteOf_byte (b : Byte) : byteOf b 0 = b := by
  apply BitVec.eq_of_getLsbD_eq
  intro j hj
  rw [getLsbD_byteOf, decide_eq_true hj, Bool.true_and, Nat.mul_zero, Nat.zero_add]

/-- Bit `j` of a word lies in byte `j / 8`. -/
theorem getLsbD_eq_getLsbD_byteOf {n : Nat} (w : BitVec n) (j : Nat) :
    w.getLsbD j = (byteOf w (j / 8)).getLsbD (j % 8) := by
  rw [getLsbD_byteOf, decide_eq_true (Nat.mod_lt j (by decide)), Bool.true_and, Nat.div_add_mod]

/-- A word is its four bytes. -/
theorem eq_of_byteOf {v w : Word} (h : ∀ i, i < 4 → byteOf v i = byteOf w i) : v = w := by
  apply BitVec.eq_of_getLsbD_eq
  intro j hj
  rw [getLsbD_eq_getLsbD_byteOf, getLsbD_eq_getLsbD_byteOf w, h (j / 8) (by omega)]

/-- A word that fits in `n` bytes has none but zero bytes above them. -/
theorem byteOf_eq_zero {w : Word} {n i : Nat} (h : w.toNat < 256 ^ n) (hi : n ≤ i) : byteOf w i = 0#8 := by
  apply BitVec.eq_of_toNat_eq
  rw [toNat_byteOf, Nat.div_eq_of_lt (lt_of_lt_of_le h (Nat.pow_le_pow_right (by decide) hi))]
  rfl

/-- The bytes of a number taken as a word are its digits to the base 256. -/
theorem byteOf_ofNat (x : Nat) {i : Nat} (hi : i < 4) :
    byteOf (BitVec.ofNat 32 x) i = BitVec.ofNat 8 (x / 256 ^ i) := by
  have hp : 2 ^ 32 = 256 ^ i * 256 ^ (4 - i) := by
    rw [← Nat.pow_add, Nat.add_sub_cancel' hi.le]; rfl
  have hd : 256 ∣ 256 ^ (4 - i) := dvd_pow_self 256 (by omega)
  apply BitVec.eq_of_toNat_eq
  rw [toNat_byteOf, BitVec.toNat_ofNat, hp, Nat.mod_mul_right_div_self, Nat.mod_mod_of_dvd _ hd, BitVec.toNat_ofNat]

/-- A rotation by whole bytes moves the bytes round. -/
theorem byteOf_rotateRight (w : Word) {n i : Nat} (hn : n < 4) (hi : i < 4) :
    byteOf (w.rotateRight (8 * n)) i = byteOf w ((n + i) % 4) := by
  apply BitVec.eq_of_getLsbD_eq
  intro j hj
  rw [getLsbD_byteOf, getLsbD_byteOf, BitVec.getLsbD_rotateRight, Nat.mod_eq_of_lt (by omega : 8 * n < 32)]
  by_cases h : n + i < 4
  · rw [decide_eq_true (by omega : 8 * i + j < 32 - 8 * n), cond_true, Nat.mod_eq_of_lt h,
      (by omega : 8 * n + (8 * i + j) = 8 * (n + i) + j)]
  · rw [decide_eq_false (by omega : ¬8 * i + j < 32 - 8 * n), cond_false, decide_eq_true (by omega : 8 * i + j < 32),
      Bool.true_and, (by omega : 8 * i + j - (32 - 8 * n) = 8 * ((n + i) % 4) + j)]

/-- The low halfword is the two low bytes. -/
theorem byteOf_one_append_byteOf_zero (w : Word) : (byteOf w 1 ++ byteOf w 0 : BitVec 16) = field w 0 16 := by
  apply BitVec.eq_of_getLsbD_eq
  intro j hj
  rw [BitVec.getLsbD_append, getLsbD_byteOf, getLsbD_byteOf]
  by_cases h : j < 8
  · simp [field, h, hj]
  · simp [field, h, hj, (by omega : j - 8 < 8), (by omega : 8 + (j - 8) = j)]

/-- The bytes of two words put side by side, the second of `m` bytes. -/
theorem byteOf_append {n p : Nat} (x : BitVec n) (y : BitVec p) {m : Nat} (hp : p = 8 * m) (i : Nat) :
    byteOf (x ++ y) i = if i < m then byteOf y i else byteOf x (i - m) := by
  subst hp
  apply BitVec.eq_of_getLsbD_eq
  intro j hj
  rw [getLsbD_byteOf, BitVec.getLsbD_append]
  split
  · next h => rw [if_pos (by omega), getLsbD_byteOf]
  · next h => rw [if_neg (by omega), getLsbD_byteOf, (by omega : 8 * i + j - 8 * m = 8 * (i - m) + j)]

/-- An arithmetic shift of a signed halfword by a byte leaves its high byte, signed. -/
theorem sshiftRight_signExtend_half (x : BitVec 16) :
    (x.signExtend 32).sshiftRight 8 = (byteOf x 1).signExtend 32 := by
  have hm : (byteOf x 1).msb = x.msb := by
    rw [BitVec.msb_eq_getLsbD_last, getLsbD_byteOf, BitVec.msb_eq_getLsbD_last]; rfl
  ext j hj
  rw [BitVec.getElem_sshiftRight, BitVec.getElem_signExtend, BitVec.msb_signExtend, hm]
  by_cases h : j < 8
  · rw [dif_pos h, dif_pos (by omega), BitVec.getElem_signExtend, dif_pos (by omega), ← BitVec.getLsbD_eq_getElem,
      ← BitVec.getLsbD_eq_getElem, getLsbD_byteOf, decide_eq_true h]
    rfl
  · rw [dif_neg h]
    split
    · rw [BitVec.getElem_signExtend, dif_neg (by omega)]
    · rfl

end Sys2Proof

namespace Sys2Proof.Machine

/-! ### The address and the data of an access (R83, R84) -/

/-- Aligning down subtracts the address modulo the width (R83, R84). -/
theorem Width.toNat_alignDown_eq_sub (k : Width) (a : Word) : (k.alignDown a).toNat = a.toNat - a.toNat % k.bytes := by
  have := Nat.div_add_mod' a.toNat k.bytes
  rw [Width.toNat_alignDown]
  omega

theorem Width.getLsbD_lowBits (k : Width) (v : Word) {j : Nat} (hj : j < 32) :
    (k.lowBits v).getLsbD j = (decide (j < 8 * k.bytes) && v.getLsbD j) := by
  cases k with
  | byte =>
    show ((field v 0 8).setWidth 32).getLsbD j = (decide (j < 8) && v.getLsbD j)
    simp [field, hj]
  | half =>
    show ((field v 0 16).setWidth 32).getLsbD j = (decide (j < 16) && v.getLsbD j)
    simp [field, hj]
  | word =>
    show v.getLsbD j = (decide (j < 32) && v.getLsbD j)
    simp [hj]

/-- The data of a write are the low bytes of the value (R84). -/
theorem Width.byteOf_lowBits (k : Width) (v : Word) {i : Nat} (hi : i < 4) :
    byteOf (k.lowBits v) i = if i < k.bytes then byteOf v i else 0#8 := by
  apply BitVec.eq_of_getLsbD_eq
  intro j hj
  rw [getLsbD_byteOf, getLsbD_lowBits _ _ (by omega)]
  split
  · next h => rw [decide_eq_true (by omega : 8 * i + j < 8 * k.bytes), Bool.true_and, getLsbD_byteOf]
  · next h => rw [decide_eq_false (by omega : ¬8 * i + j < 8 * k.bytes), Bool.false_and, Bool.and_false,
      BitVec.getLsbD_zero]

namespace Memory

/-! ### The bytes of an access (R83, R84) -/

/-- The digits to the base 256 of what is read are the bytes (R82). -/
theorem readBytes_digit (m : Memory) (a n i : Nat) :
    m.readBytes a n / 256 ^ i % 256 = if i < n then (m.byteAt (a + i)).toNat else 0 := by
  induction n generalizing a i with
  | zero => simp [readBytes]
  | succ n ih =>
    have hb := (m.byteAt a).isLt
    cases i with
    | zero => rw [readBytes, if_pos n.succ_pos, Nat.pow_zero, Nat.div_one, Nat.add_zero a]; omega
    | succ j =>
      have hq : m.readBytes a (n + 1) / 256 = m.readBytes (a + 1) n := by rw [readBytes]; omega
      rw [Nat.pow_succ', ← Nat.div_div_eq_div_mul, hq, ih, Nat.add_assoc, Nat.add_comm 1 j]
      simp only [Nat.succ_lt_succ_iff]

/-- A read gives the bytes of its place, zero-extended. -/
theorem byteOf_read (m : Memory) (k : Width) (a : Word) {i : Nat} (hi : i < 4) :
    byteOf (m.read k a) i = if i < k.bytes then m.byteAt ((k.alignDown a).toNat + i) else 0#8 := by
  have hd := m.readBytes_digit (k.alignDown a).toNat k.bytes i
  rw [read, byteOf_ofNat _ hi]
  apply BitVec.eq_of_toNat_eq
  rw [BitVec.toNat_ofNat, hd]
  split <;> rfl

/-- A write puts the low bytes of its value in its place (R84). -/
theorem byteAt_write {m : Memory} (k : Width) (a v : Word) {i : Nat} (hm : m.wf = true) (hi : i < k.bytes) :
    (m.write k a v).byteAt ((k.alignDown a).toNat + i) = byteOf v i := by
  rw [write, byteAt_writeBytes v hm (by simpa using k.alignDown_bound a), if_pos (by omega), Nat.add_sub_cancel_left]

/-- What is read depends on the bytes of the place alone. -/
theorem read_congr {m n : Memory} {k : Width} {a : Word}
    (h : ∀ i, i < k.bytes → m.byteAt ((k.alignDown a).toNat + i) = n.byteAt ((k.alignDown a).toNat + i)) :
    m.read k a = n.read k a := by
  apply eq_of_byteOf
  intro i hi
  rw [byteOf_read _ _ _ hi, byteOf_read _ _ _ hi]
  split
  · next hk => exact h i hk
  · rfl

/-- A read gives what the write to its place left (R98 (a)). -/
theorem read_write_same {m : Memory} (k : Width) (a v : Word) (hm : m.wf = true) :
    (m.write k a v).read k a = k.lowBits v := by
  apply eq_of_byteOf
  intro i hi
  rw [byteOf_read _ _ _ hi, Width.byteOf_lowBits _ _ hi]
  split
  · next hk => exact byteAt_write k a v hm hk
  · rfl

/-- A write that does not touch a place leaves what is read there. -/
theorem read_write_disjoint (m : Memory) {k l : Width} {a b : Word} (w : Word)
    (h : (k.alignDown a).toNat + k.bytes ≤ (l.alignDown b).toNat ∨
      (l.alignDown b).toNat + l.bytes ≤ (k.alignDown a).toNat) : (m.write l b w).read k a = m.read k a :=
  read_congr fun _ _ => byteAt_write_ne m l b w (by omega)

/-! ### The canonical form (R81) -/

theorem byteAt_head (key : Nat) (x : Byte) (rest : Memory) : byteAt ((key, x) :: rest) key = x := if_pos rfl

theorem wfFrom_cons {low key : Nat} {x : Byte} {rest : Memory} (h : wfFrom low ((key, x) :: rest) = true) :
    x ≠ fill ∧ wfFrom (key + 1) rest = true := by
  simp only [wfFrom, Bool.and_eq_true, decide_eq_true_eq] at h
  obtain ⟨⟨-, hx⟩, hrest⟩ := h
  exact ⟨hx, hrest⟩

/-- The first key is at most every address that does not read as `fill`. -/
theorem head_le_of_byteAt_ne_fill {low key a : Nat} {x : Byte} {rest : Memory}
    (hm : wfFrom low ((key, x) :: rest) = true) (h : byteAt ((key, x) :: rest) a ≠ fill) : key ≤ a :=
  Nat.le_of_not_lt fun ha => h <| by
    rw [byteAt, if_neg ha.ne, byteAt_of_wfFrom (wfFrom_cons hm).2 (by omega)]

/-- Two canonical lists that read alike are the same: their first keys are the least address that does not read as
`fill`, and so on down the list. -/
theorem eq_of_byteAt {low low' : Nat} {m n : Memory} (hm : wfFrom low m = true) (hn : wfFrom low' n = true)
    (h : ∀ a, m.byteAt a = n.byteAt a) : m = n := by
  induction m generalizing low low' n with
  | nil =>
    cases n with
    | nil => rfl
    | cons d ns =>
      obtain ⟨key, y⟩ := d
      exact absurd ((byteAt_head key y ns).symm.trans (h key).symm) (wfFrom_cons hn).1
  | cons c ms ih =>
    obtain ⟨key, x⟩ := c
    obtain ⟨hx, hms⟩ := wfFrom_cons hm
    have hkey := byteAt_head key x ms
    cases n with
    | nil => exact absurd (hkey.symm.trans (h key)) hx
    | cons d ns =>
      obtain ⟨key', y⟩ := d
      obtain ⟨hy, hns⟩ := wfFrom_cons hn
      have hkey' := byteAt_head key' y ns
      have hle : key' ≤ key := head_le_of_byteAt_ne_fill hn (h key ▸ hkey.symm ▸ hx)
      have hge : key ≤ key' := head_le_of_byteAt_ne_fill hm (h key' ▸ hkey'.symm ▸ hy)
      obtain rfl : key = key' := Nat.le_antisymm hge hle
      have hxy : x = y := hkey.symm.trans ((h key).trans hkey')
      have hrest : ∀ a, byteAt ms a = byteAt ns a := by
        intro a
        by_cases ha : a = key
        · rw [byteAt_of_wfFrom hms (by omega), byteAt_of_wfFrom hns (by omega)]
        · simpa [byteAt, ha] using h a
      rw [hxy, ih hms hns hrest]

end Memory

/-! ### What the port answers in a region and outside (R85) -/

theorem Region.touches_iff {g : Region} {k : Width} {a : Word} : g.touches k a = true ↔
    (k.alignDown a).toNat < g.base + g.size ∧ g.base < (k.alignDown a).toNat + k.bytes := by
  simp [Region.touches]

namespace State

theorem isExternal_eq_false {s : State} {k : Width} {a : Word}
    (h : ∀ g ∈ s.regions, g.base + g.size ≤ (k.alignDown a).toNat ∨ (k.alignDown a).toNat + k.bytes ≤ g.base) :
    s.isExternal k a = false := by
  rw [isExternal, List.any_eq_false]
  intro g hg
  have := h g hg
  rw [Region.touches_iff]
  omega

theorem isExternal_of_mem {s : State} {k : Width} {a : Word} {g : Region} (hg : g ∈ s.regions)
    (hlo : g.base < (k.alignDown a).toNat + k.bytes) (hhi : (k.alignDown a).toNat < g.base + g.size) :
    s.isExternal k a = true :=
  List.any_eq_true.2 ⟨g, hg, Region.touches_iff.2 ⟨hhi, hlo⟩⟩

/-- The bytes of an oracle's answer. -/
theorem byteOf_answer_external {s : State} {k : Width} {a : Word} (h : s.isExternal k a = true) (n : Nat)
    {i : Nat} (hi : i < 4) :
    byteOf (s.answer n k a) i = if i < k.bytes then byteOf (Config.portAnswer (s.port.length + n)) i else 0#8 := by
  rw [answer_external h, Width.byteOf_lowBits _ _ hi]

/-! ### The load helpers (R87) -/

/-- The port answers a halfword of two bytes. -/
theorem byteOf_peek_half (s : State) (a : Word) {i : Nat} (hi : 2 ≤ i) : byteOf (s.peek .half a) i = 0#8 :=
  byteOf_eq_zero (answer_toNat_lt s 0 .half a) hi

/-- The port answers a read of a halfword zero-extended (R83). -/
theorem setWidth_field_peek_half (s : State) (a : Word) :
    (field (s.peek .half a) 0 16).setWidth 32 = s.peek .half a := by
  apply BitVec.eq_of_toNat_eq
  have hb : (s.peek .half a).toNat < 65536 := answer_toNat_lt s 0 .half a
  rw [BitVec.toNat_setWidth, field, BitVec.extractLsb'_toNat, Nat.shiftRight_zero]
  omega

end State

theorem toNat_field_one (a : Word) : (field a 0 1).toNat = a.toNat % 2 := by
  simp [field, BitVec.extractLsb'_toNat]

theorem toNat_field_two (a : Word) : (field a 0 2).toNat = a.toNat % 4 := by
  simp [field, BitVec.extractLsb'_toNat]

namespace State

theorem load_word (s : State) (a : Word) : s.load .word a = (s.peek .word a).rotateRight (8 * (a.toNat % 4)) := by
  rw [load, toNat_field_two]

theorem load_halfU (s : State) (a : Word) : s.load .halfU a = if a.toNat % 2 = 0
    then (byteOf (s.peek .half a) 1 ++ byteOf (s.peek .half a) 0 : BitVec 16).setWidth 32
    else (byteOf (s.peek .half a) 0 ++ 0#16 ++ byteOf (s.peek .half a) 1 : BitVec 32) := by
  rw [load, toNat_field_one]
  rcases Nat.mod_two_eq_zero_or_one a.toNat with h | h
  · rw [h, if_pos rfl, byteOf_one_append_byteOf_zero, setWidth_field_peek_half]
    exact eq_of_byteOf fun i hi => by
      rw [byteOf_rotateRight _ (by decide) hi, Nat.zero_add, Nat.mod_eq_of_lt hi]
  · rw [h, if_neg (by decide)]
    apply eq_of_byteOf
    intro i hi
    rw [byteOf_rotateRight _ (by decide) hi, byteOf_append _ _ (m := 1) rfl, byteOf_append _ _ (m := 2) rfl]
    interval_cases i
    · exact (byteOf_byte _).symm
    · exact byteOf_peek_half s a (by decide)
    · exact byteOf_peek_half s a (by decide)
    · exact (byteOf_byte _).symm

theorem load_halfS (s : State) (a : Word) : s.load .halfS a = if a.toNat % 2 = 0
    then (byteOf (s.peek .half a) 1 ++ byteOf (s.peek .half a) 0 : BitVec 16).signExtend 32
    else (byteOf (s.peek .half a) 1).signExtend 32 := by
  rw [load, toNat_field_one]
  rcases Nat.mod_two_eq_zero_or_one a.toNat with h | h
  · rw [h, if_pos rfl, byteOf_one_append_byteOf_zero, Nat.mul_zero, BitVec.sshiftRight_zero]
  · rw [h, if_neg (by decide), Nat.mul_one, sshiftRight_signExtend_half, byteOf, field_field _ (by decide)]; rfl

end State

/-- Settles O3: the bytes of a write, of the rest of memory and of a read. -/
theorem portAccess : Obligations.PortAccess := fun m k a v hm =>
  ⟨fun _ hi => Memory.byteAt_write k a v hm hi, fun _ hb => Memory.byteAt_write_ne m k a v hb,
    fun _ hi => Memory.byteOf_read m k a hi, k.toNat_alignDown_eq_sub a⟩

/-- Settles O4: a disjoint write does not change what is read, and the regions decide who answers. -/
theorem loadAfterStore : Obligations.LoadAfterStore := by
  refine ⟨fun m k l a b v w hm hd => ?_, ?_⟩
  · rw [Memory.read_write_disjoint _ w hd, Memory.read_write_same k a v hm]
  rintro s k a v lo rfl
  refine ⟨rfl, rfl, rfl, rfl, fun hout => ?_, fun g hg hlo hhi i hi => ?_⟩
  · have hp : s.isExternal k a = false := State.isExternal_eq_false hout
    have hq : (s.store k a v).isExternal k a = false := hp
    refine ⟨fun i hi => ?_, fun hm => ?_⟩
    · rw [State.peek, State.answer_plain hp, Memory.byteOf_read _ _ _ hi]
    · rw [State.peek, State.answer_plain hq, State.mem_store, Memory.read_write_same k a v hm]
  · have he : s.isExternal k a = true := State.isExternal_of_mem hg hlo hhi
    rw [State.peek, State.peek, State.answer_noteRead, State.byteOf_answer_external he _ hi,
      State.byteOf_answer_external he _ hi]
    exact ⟨rfl, rfl⟩

/-- Settles O5. -/
theorem memoryExtensional : Obligations.MemoryExtensional := fun _ _ hm hn h => Memory.eq_of_byteAt hm hn h

/-- Settles O6: the rotations and the signed shift, as moves of bytes. -/
theorem loadHelpers : Obligations.LoadHelpers := by
  rintro s a w h b rfl rfl rfl
  refine ⟨fun i hi => ?_, s.load_halfU a, s.load_halfS a, rfl, rfl⟩
  rw [State.load_word, byteOf_rotateRight _ (Nat.mod_lt _ (by decide)) hi]

end Sys2Proof.Machine

/-! PROOFS. The statements about the decoders and the encoder (30_encoding.md): the round trip, and both decoders
against the opcode table. -/

namespace Sys2Proof.Laws.RoundTrip

/-- Each constructor by its own lemma: the decoder reads back every field of its format, and a raw word of its class. -/
theorem decode_encode (i : Instr) : Statement i := by
  cases i with
  | andImm => apply andImm | andRegImm => apply andRegImm | andRegReg => apply andRegReg
  | eorImm => apply eorImm | eorRegImm => apply eorRegImm | eorRegReg => apply eorRegReg
  | subImm => apply subImm | subRegImm => apply subRegImm | subRegReg => apply subRegReg
  | rsbImm => apply rsbImm | rsbRegImm => apply rsbRegImm | rsbRegReg => apply rsbRegReg
  | addImm => apply addImm | addRegImm => apply addRegImm | addRegReg => apply addRegReg
  | adcImm => apply adcImm | adcRegImm => apply adcRegImm | adcRegReg => apply adcRegReg
  | sbcImm => apply sbcImm | sbcRegImm => apply sbcRegImm | sbcRegReg => apply sbcRegReg
  | rscImm => apply rscImm | rscRegImm => apply rscRegImm | rscRegReg => apply rscRegReg
  | tstImm => apply tstImm | tstRegImm => apply tstRegImm | tstRegReg => apply tstRegReg
  | teqImm => apply teqImm | teqRegImm => apply teqRegImm | teqRegReg => apply teqRegReg
  | cmpImm => apply cmpImm | cmpRegImm => apply cmpRegImm | cmpRegReg => apply cmpRegReg
  | cmnImm => apply cmnImm | cmnRegImm => apply cmnRegImm | cmnRegReg => apply cmnRegReg
  | orrImm => apply orrImm | orrRegImm => apply orrRegImm | orrRegReg => apply orrRegReg
  | movImm => apply movImm | movRegImm => apply movRegImm | movRegReg => apply movRegReg
  | bicImm => apply bicImm | bicRegImm => apply bicRegImm | bicRegReg => apply bicRegReg
  | mvnImm => apply mvnImm | mvnRegImm => apply mvnRegImm | mvnRegReg => apply mvnRegReg
  | mrs => apply mrs | msrReg => apply msrReg | msrImm => apply msrImm | mul => apply mul | mla => apply mla
  | umull => apply umull | umlal => apply umlal | smull => apply smull | smlal => apply smlal
  | ldrImmPre => apply ldrImmPre | ldrImmPost => apply ldrImmPost | ldrRegPre => apply ldrRegPre
  | ldrRegPost => apply ldrRegPost
  | strImmPre => apply strImmPre | strImmPost => apply strImmPost | strRegPre => apply strRegPre
  | strRegPost => apply strRegPost
  | ldrbImmPre => apply ldrbImmPre | ldrbImmPost => apply ldrbImmPost | ldrbRegPre => apply ldrbRegPre
  | ldrbRegPost => apply ldrbRegPost
  | strbImmPre => apply strbImmPre | strbImmPost => apply strbImmPost | strbRegPre => apply strbRegPre
  | strbRegPost => apply strbRegPost
  | ldrtImm => apply ldrtImm | ldrtReg => apply ldrtReg | strtImm => apply strtImm | strtReg => apply strtReg
  | ldrbtImm => apply ldrbtImm | ldrbtReg => apply ldrbtReg | strbtImm => apply strbtImm | strbtReg => apply strbtReg
  | strhImm => apply strhImm | strhReg => apply strhReg | ldrhImm => apply ldrhImm | ldrhReg => apply ldrhReg
  | ldrsbImm => apply ldrsbImm | ldrsbReg => apply ldrsbReg | ldrshImm => apply ldrshImm | ldrshReg => apply ldrshReg
  | ldm => apply ldm | stm => apply stm | swp => apply swp | swpb => apply swpb | b => apply b | bl => apply bl
  | bx => apply bx | swi => apply swi | und => apply und | ldc => apply ldc | stc => apply stc | cdp => apply cdp
  | mcr => apply mcr | mrc => apply mrc | unsupportedMultiply => apply unsupportedMultiply
  | unsupportedSwap => apply unsupportedSwap | unsupportedHalfwordStore => apply unsupportedHalfwordStore
  | unsupportedMisc => apply unsupportedMisc | unsupportedImmMisc => apply unsupportedImmMisc
  | bLslImm => apply bLslImm | bLsrImm => apply bLsrImm | bAsrImm => apply bAsrImm | bAddReg => apply bAddReg
  | bSubReg => apply bSubReg | bAddImm3 => apply bAddImm3 | bSubImm3 => apply bSubImm3 | bMovImm8 => apply bMovImm8
  | bCmpImm8 => apply bCmpImm8 | bAddImm8 => apply bAddImm8 | bSubImm8 => apply bSubImm8 | bAndAlu => apply bAndAlu
  | bEorAlu => apply bEorAlu | bLslReg => apply bLslReg | bLsrReg => apply bLsrReg | bAsrReg => apply bAsrReg
  | bAdcAlu => apply bAdcAlu | bSbcAlu => apply bSbcAlu | bRorReg => apply bRorReg | bTstAlu => apply bTstAlu
  | bNegAlu => apply bNegAlu | bCmpAlu => apply bCmpAlu | bCmnAlu => apply bCmnAlu | bOrrAlu => apply bOrrAlu
  | bMulAlu => apply bMulAlu | bBicAlu => apply bBicAlu | bMvnAlu => apply bMvnAlu | bAddHi => apply bAddHi
  | bCmpHi => apply bCmpHi | bMovHi => apply bMovHi | bBxHi => apply bBxHi | bLdrPc => apply bLdrPc
  | bStrReg => apply bStrReg | bStrbReg => apply bStrbReg | bLdrReg => apply bLdrReg | bLdrbReg => apply bLdrbReg
  | bStrhReg => apply bStrhReg | bLdsbReg => apply bLdsbReg | bLdrhReg => apply bLdrhReg | bLdshReg => apply bLdshReg
  | bStrImm5 => apply bStrImm5 | bLdrImm5 => apply bLdrImm5 | bStrbImm5 => apply bStrbImm5
  | bLdrbImm5 => apply bLdrbImm5 | bStrhImm5 => apply bStrhImm5 | bLdrhImm5 => apply bLdrhImm5
  | bStrSp => apply bStrSp | bLdrSp => apply bLdrSp | bAddPc => apply bAddPc | bAddSp => apply bAddSp
  | bAddSpImm => apply bAddSpImm | bSubSpImm => apply bSubSpImm | bPush => apply bPush | bPop => apply bPop
  | bStmia => apply bStmia | bLdmia => apply bLdmia | bBeq => apply bBeq | bBne => apply bBne | bBcs => apply bBcs
  | bBcc => apply bBcc | bBmi => apply bBmi | bBpl => apply bBpl | bBvs => apply bBvs | bBvc => apply bBvc
  | bBhi => apply bBhi | bBls => apply bBls | bBge => apply bBge | bBlt => apply bBlt | bBgt => apply bBgt
  | bBle => apply bBle | bSwi => apply bSwi | bB => apply bB | bBlPrefix => apply bBlPrefix
  | bBlSuffix => apply bBlSuffix | bUnd => apply bUnd

end Sys2Proof.Laws.RoundTrip

namespace Sys2Proof

/-- Settles O58, constructor by constructor. -/
theorem roundTrip : Obligations.RoundTrip := Laws.RoundTrip.decode_encode

/-! ### What a field fixes (R13) -/

theorem bit_eq_of_field_eq {n lo len : Nat} {v w : BitVec n} (h : field v lo len = field w lo len) (k : Nat)
    (hk : lo ≤ k ∧ k < lo + len) : bit v k = bit w k := by
  rw [bit_eq_field v hk, bit_eq_field w hk, h]

theorem field_eq_of_field_eq {n lo len : Nat} {v w : BitVec n} (h : field v lo len = field w lo len) (lo' len' : Nat)
    (hk : lo ≤ lo' ∧ lo' + len' ≤ lo + len) : field v lo' len' = field w lo' len' :=
  field_ext fun k _ => bit_eq_of_field_eq h (lo' + k) (by omega)

theorem and_put_allOnes {n : Nat} (w : BitVec n) (lo len : Nat) :
    w &&& put (BitVec.allOnes len) lo = put (field w lo len) lo := by
  apply BitVec.eq_of_getLsbD_eq
  intro i hi
  by_cases h : i < lo
  · simp [put, h]
  · simp [put, field, h, hi, Nat.add_sub_cancel' (Nat.le_of_not_lt h), Bool.and_comm]

theorem bitVec_three_cases : ∀ c : BitVec 3,
    c = 0#3 ∨ c = 1#3 ∨ c = 2#3 ∨ c = 3#3 ∨ c = 4#3 ∨ c = 5#3 ∨ c = 6#3 ∨ c = 7#3 := by decide

/-! ### The rows of the opcode table (R120) -/

namespace OpcodeTable

theorem Row.disjoint_comm {n : Nat} (r q : Row n) : r.disjoint q = q.disjoint r := by
  rw [Row.disjoint, Row.disjoint, BitVec.xor_comm, BitVec.and_assoc, BitVec.and_assoc, BitVec.and_comm r.mask]

/-- A word that belongs to two rows has the value of each on the bits both fix. -/
theorem Row.disjoint_eq_false {n : Nat} {r q : Row n} {w : BitVec n} (hr : r.matches w = true)
    (hq : q.matches w = true) : r.disjoint q = false := by
  have hr : w &&& r.mask = r.value := eq_of_beq hr
  have hq : w &&& q.mask = q.value := eq_of_beq hq
  rw [Row.disjoint, bne_eq_false_iff_eq, ← hr, ← hq]
  ext i hi
  simp only [BitVec.getElem_and, BitVec.getElem_xor, BitVec.getElem_zero]
  cases w[i] <;> cases r.mask[i] <;> cases q.mask[i] <;> rfl

theorem eq_of_matches {n : Nat} {rows : List (Row n)} (hp : rows.Pairwise fun r q => r.disjoint q = true)
    {r q : Row n} {w : BitVec n} (hr : r ∈ rows) (hq : q ∈ rows) (hrw : r.matches w = true)
    (hqw : q.matches w = true) : q = r := by
  have : Std.Symm fun r q : Row n => r.disjoint q = true := ⟨fun _ _ h => (Row.disjoint_comm ..).trans h⟩
  by_contra hne
  have hd : q.disjoint r = true := hp.forall hq hr hne
  rw [Row.disjoint_eq_false hqw hrw] at hd
  cases hd

/-! The rows of the table are disjoint: within each of its lists, and each list against each other. -/

theorem rowsA_disjoint : rowsA.Pairwise fun r q => r.disjoint q = true := by
  simp only [rowsA, List.pairwise_append, List.mem_append, or_imp, forall_and]
  and_intros <;> decide

theorem rowsB_disjoint : rowsB.Pairwise fun r q => r.disjoint q = true := by
  simp only [rowsB, List.pairwise_append, List.mem_append, or_imp, forall_and]
  and_intros <;> decide

/-- One of the rows fixes no bit outside `mask`, has the word `head` and has the name. -/
def namedBy {n : Nat} (rows : List (Row n)) (mask head : BitVec n) (name : String) : Bool :=
  rows.any fun r => (head &&& r.mask).toNat == r.value.toNat && (r.mask &&& mask).toNat == r.mask.toNat &&
    r.name == name

/-- A row that fixes no bit outside `mask` has `w` as soon as it has the bits of `w` in `mask`. -/
theorem exists_row_of_namedBy {n : Nat} {rows : List (Row n)} {w mask : BitVec n} {name : String}
    (h : namedBy rows mask (w &&& mask) name = true) : ∃ r ∈ rows, r.matches w = true ∧ name = r.name := by
  obtain ⟨r, hr, h⟩ := List.any_eq_true.mp h
  simp only [Bool.and_eq_true, beq_iff_eq, BitVec.toNat_inj] at h
  obtain ⟨⟨hv, hm⟩, hn⟩ := h
  refine ⟨r, hr, ?_, hn.symm⟩
  rw [Row.matches, beq_iff_eq, ← hv, BitVec.and_assoc, BitVec.and_comm mask, hm]

end OpcodeTable

/-! ### The bits that name an instruction of Set-A (R123): bits 27:20, and below them bits 7:4 or bit 4 -/

/-- How many of the bits from bit 4 on name an instruction whose bits 27:25 are `c`. -/
def lowBits (c : BitVec 3) : Nat := if c = 0b000#3 then 4 else if c = 0b011#3 ∨ c = 0b111#3 then 1 else 0

/-- The word with these bits 27:25, bits 24:20 and bits from 4 on, and 0 elsewhere. -/
def headA (c : BitVec 3) (x : BitVec 5) {k : Nat} (y : BitVec k) : Word := put c 25 ||| put x 20 ||| put y 4

section
variable (c : BitVec 3) (x : BitVec 5) {k : Nat} (y : BitVec k)

theorem field_headA_class (hk : k ≤ 16) : field (headA c x y) 25 3 = c := by
  simp [headA, field_put, field_put_ne, show 4 + k ≤ 25 by omega]

theorem field_headA_op (hk : k ≤ 16) : field (headA c x y) 20 5 = x := by
  simp [headA, field_put, field_put_ne, show 4 + k ≤ 20 by omega]

theorem field_headA_low (hk : k ≤ 16) : field (headA c x y) 4 k = y := by
  simp [headA, field_put, field_put_ne, show 4 + k ≤ 20 by omega, show 4 + k ≤ 25 by omega,
    show 4 + k ≤ 32 by omega]

end

theorem and_headA_allOnes (w : Word) (k : Nat) :
    w &&& headA (BitVec.allOnes 3) (BitVec.allOnes 5) (BitVec.allOnes k) =
      headA (field w 25 3) (field w 20 5) (field w 4 k) := by
  simp only [headA, BitVec.and_or_distrib_left, and_put_allOnes]

/-! The mnemonic of a data-processing instruction is that of its operation, whatever the operands. -/

/-- The mnemonic of an operation with an immediate operand. -/
def DpOp.immName (op : DpOp) : String := (Instr.dpImm op .al false 0 0 0#4 0#8).mnemonic

/-- The mnemonic of an operation on a register shifted by an immediate. -/
def DpOp.regImmName (op : DpOp) : String := (Instr.dpRegImm op .al false 0 0 0#5 .lsl 0).mnemonic

/-- The mnemonic of an operation on a register shifted by a register. -/
def DpOp.regRegName (op : DpOp) : String := (Instr.dpRegReg op .al false 0 0 0 .lsl 0).mnemonic

theorem mnemonic_dpImm (op : DpOp) (cond : Cond) (sf : Bool) (rn rd : Reg) (rotate : BitVec 4) (imm8 : BitVec 8) :
    (Instr.dpImm op cond sf rn rd rotate imm8).mnemonic = op.immName := by cases op <;> rfl

theorem mnemonic_dpRegImm (op : DpOp) (cond : Cond) (sf : Bool) (rn rd : Reg) (amount : BitVec 5) (sh : ShiftType)
    (rm : Reg) : (Instr.dpRegImm op cond sf rn rd amount sh rm).mnemonic = op.regImmName := by cases op <;> rfl

theorem mnemonic_dpRegReg (op : DpOp) (cond : Cond) (sf : Bool) (rn rd rs : Reg) (sh : ShiftType) (rm : Reg) :
    (Instr.dpRegReg op cond sf rn rd rs sh rm).mnemonic = op.regRegName := by cases op <;> rfl

/-! Two words that agree in the bits a decoder tests take the same branches, with other operands at most: each proof
makes the tests of the two sides one, and `rfl` compares the names the branches give. -/

section
variable {v w : Word}

theorem mnemonic_decodeMultiplySpace_congr (hx : field v 20 5 = field w 20 5) (hy : field v 4 4 = field w 4 4) :
    (decodeMultiplySpace v).mnemonic = (decodeMultiplySpace w).mnemonic := by
  simp [decodeMultiplySpace, bit_eq_of_field_eq hx, field_eq_of_field_eq hx, bit_eq_of_field_eq hy,
    field_eq_of_field_eq hy, apply_ite Instr.mnemonic]
  rfl

theorem mnemonic_decodeMiscSpace_congr (hx : field v 20 5 = field w 20 5) (hy : field v 4 4 = field w 4 4) :
    (decodeMiscSpace v).mnemonic = (decodeMiscSpace w).mnemonic := by
  simp [decodeMiscSpace, bit_eq_of_field_eq hx, field_eq_of_field_eq hx, hy, apply_ite Instr.mnemonic]
  rfl

theorem mnemonic_decodeSingleTransfer_congr (hc : field v 25 3 = field w 25 3) (hx : field v 20 5 = field w 20 5) :
    (decodeSingleTransfer v).mnemonic = (decodeSingleTransfer w).mnemonic := by
  simp [decodeSingleTransfer, bit_eq_of_field_eq hc, bit_eq_of_field_eq hx, apply_ite Instr.mnemonic]
  rfl

/-- Bits 27:20, and below them the bits that `lowBits` counts, name an instruction of Set-A. -/
theorem mnemonic_decodeA_congr (hc : field v 25 3 = field w 25 3) (hx : field v 20 5 = field w 20 5)
    (hy : field v 4 (lowBits (field w 25 3)) = field w 4 (lowBits (field w 25 3))) :
    (decodeA v).mnemonic = (decodeA w).mnemonic := by
  have hb := bit_eq_of_field_eq hx
  have hf := field_eq_of_field_eq hx
  rcases bitVec_three_cases (field w 25 3) with h | h | h | h | h | h | h | h <;> rw [h] at hc hy
  · have hy : field v 4 4 = field w 4 4 := hy
    simp [decodeA, hc, h, hb, hf, bit_eq_of_field_eq hy, apply_ite Instr.mnemonic, mnemonic_dpRegImm, mnemonic_dpRegReg,
      mnemonic_decodeMultiplySpace_congr hx hy, mnemonic_decodeMiscSpace_congr hx hy]
  · simp [decodeA, hc, h, hb, hf, apply_ite Instr.mnemonic, mnemonic_dpImm]
    rfl
  · simp [decodeA, hc, h, mnemonic_decodeSingleTransfer_congr (hc.trans h.symm) hx]
  · have hy : field v 4 1 = field w 4 1 := hy
    simp [decodeA, hc, h, bit_eq_of_field_eq hy, apply_ite Instr.mnemonic,
      mnemonic_decodeSingleTransfer_congr (hc.trans h.symm) hx]
    rfl
  · simp [decodeA, hc, h, hb, apply_ite Instr.mnemonic]
    rfl
  · simp [decodeA, hc, h, hb, apply_ite Instr.mnemonic]
    rfl
  · simp [decodeA, hc, h, hb, apply_ite Instr.mnemonic]
    rfl
  · have hy : field v 4 1 = field w 4 1 := hy
    simp [decodeA, hc, h, hb, bit_eq_of_field_eq hy, apply_ite Instr.mnemonic]
    rfl

end

/-- The table and the decoder agree on the words that are 0 but for the bits that name an instruction, each looked up
among the rows of its bits 27:25. -/
theorem namedBy_headA : ∀ (c : BitVec 3) (x : BitVec 5) (y : BitVec (lowBits c)),
    OpcodeTable.namedBy (OpcodeTable.rowsA.filter fun r => field r.value 25 3 = c)
      (headA (BitVec.allOnes 3) (BitVec.allOnes 5) (BitVec.allOnes (lowBits c))) (headA c x y)
      (decodeA (headA c x y)).mnemonic = true := by decide

theorem lowBits_le (c : BitVec 3) : lowBits c ≤ 16 := by revert c; decide

theorem exists_rowA (w : Word) :
    ∃ r ∈ OpcodeTable.rowsA, r.matches w = true ∧ (decodeA w).mnemonic = r.name := by
  have hk := lowBits_le (field w 25 3)
  have hn := namedBy_headA (field w 25 3) (field w 20 5) (field w 4 (lowBits (field w 25 3)))
  rw [mnemonic_decodeA_congr (field_headA_class _ _ _ hk) (field_headA_op _ _ _ hk) (field_headA_low _ _ _ hk),
    ← and_headA_allOnes] at hn
  obtain ⟨r, hr, h⟩ := OpcodeTable.exists_row_of_namedBy hn
  exact ⟨r, List.mem_of_mem_filter hr, h⟩

/-! ### The bits that name an instruction of Set-B (R140): bits 15:13 and the highest of those below them -/

/-- How many of the bits from bit 12 down name an instruction whose bits 15:13 are `c`. -/
def opBits (c : BitVec 3) : Nat :=
  match c.toNat with
  | 0 => 4 | 2 => 7 | 5 => 6 | 6 => 5 | _ => 2

theorem opBits_le (c : BitVec 3) : opBits c ≤ 13 := by revert c; decide

/-- The word with these bits 15:13, these bits from bit 12 down, and 0 elsewhere. -/
def headB (c : BitVec 3) {k : Nat} (x : BitVec k) : Half := put c 13 ||| put x (13 - k)

section
variable (c : BitVec 3) {k : Nat} (x : BitVec k) (hk : k ≤ 13)
include hk

theorem field_headB_class : field (headB c x) 13 3 = c := by
  simp [headB, field_put, field_put_ne, show 13 - k + k ≤ 13 by omega]

theorem field_headB_op : field (headB c x) (13 - k) k = x := by
  simp [headB, field_put, field_put_ne, show 13 - k + k ≤ 13 by omega, show 13 - k + k ≤ 16 by omega]

end

theorem and_headB_allOnes (h : Half) (k : Nat) :
    h &&& headB (BitVec.allOnes 3) (BitVec.allOnes k) = headB (field h 13 3) (field h (13 - k) k) := by
  simp only [headB, BitVec.and_or_distrib_left, and_put_allOnes]

/-! The mnemonics of the two formats that carry an operation or a condition, whatever the other fields. -/

/-- The mnemonic of an F4 operation (R144). -/
def aluNameB (op : BitVec 4) : String := (decodeAluB op 0 0).mnemonic

/-- The mnemonic of an F16 condition (R156). -/
def condBranchNameB (cond : BitVec 4) : String := (decodeCondBranchB cond 0#8).mnemonic

theorem mnemonic_decodeAluB (op : BitVec 4) (rs rd : LowReg) : (decodeAluB op rs rd).mnemonic = aluNameB op := by
  unfold aluNameB decodeAluB
  split <;> rfl

theorem mnemonic_decodeCondBranchB (cond : BitVec 4) (soffset8 : BitVec 8) :
    (decodeCondBranchB cond soffset8).mnemonic = condBranchNameB cond := by
  unfold condBranchNameB decodeCondBranchB
  split <;> rfl

section
variable {g h : Half}

theorem mnemonic_decodeShiftAddB_congr (hx : field g 9 4 = field h 9 4) :
    (decodeShiftAddB g).mnemonic = (decodeShiftAddB h).mnemonic := by
  simp [decodeShiftAddB, bit_eq_of_field_eq hx, field_eq_of_field_eq hx, apply_ite Instr.mnemonic]
  rfl

theorem mnemonic_decodeRegTransferB_congr (hx : field g 6 7 = field h 6 7) :
    (decodeRegTransferB g).mnemonic = (decodeRegTransferB h).mnemonic := by
  simp [decodeRegTransferB, bit_eq_of_field_eq hx, apply_ite Instr.mnemonic]
  rfl

theorem mnemonic_decodeHiB_congr (hx : field g 6 7 = field h 6 7) :
    (decodeHiB g).mnemonic = (decodeHiB h).mnemonic := by
  simp [decodeHiB, field_eq_of_field_eq hx, apply_ite Instr.mnemonic]
  rfl

/-- Bits 15:13, and below them the bits that `opBits` counts, name an instruction of Set-B. -/
theorem mnemonic_decodeB_congr (hc : field g 13 3 = field h 13 3)
    (hx : field g (13 - opBits (field h 13 3)) (opBits (field h 13 3)) =
      field h (13 - opBits (field h 13 3)) (opBits (field h 13 3))) :
    (decodeB g).mnemonic = (decodeB h).mnemonic := by
  rcases bitVec_three_cases (field h 13 3) with e | e | e | e | e | e | e | e <;> rw [e] at hc hx
  · have hx : field g 9 4 = field h 9 4 := hx
    simp [decodeB, hc, e, mnemonic_decodeShiftAddB_congr hx]
  · have hx : field g 11 2 = field h 11 2 := hx
    simp [decodeB, hc, e, hx, apply_ite Instr.mnemonic]
    rfl
  · have hx : field g 6 7 = field h 6 7 := hx
    simp [decodeB, hc, e, bit_eq_of_field_eq hx, field_eq_of_field_eq hx, apply_ite Instr.mnemonic,
      mnemonic_decodeAluB, mnemonic_decodeHiB_congr hx, mnemonic_decodeRegTransferB_congr hx]
    rfl
  · have hx : field g 11 2 = field h 11 2 := hx
    simp [decodeB, hc, e, bit_eq_of_field_eq hx, apply_ite Instr.mnemonic]
    rfl
  · have hx : field g 11 2 = field h 11 2 := hx
    simp [decodeB, hc, e, bit_eq_of_field_eq hx, apply_ite Instr.mnemonic]
    rfl
  · have hx : field g 7 6 = field h 7 6 := hx
    simp [decodeB, hc, e, bit_eq_of_field_eq hx, field_eq_of_field_eq hx, apply_ite Instr.mnemonic]
    rfl
  · have hx : field g 8 5 = field h 8 5 := hx
    simp [decodeB, hc, e, bit_eq_of_field_eq hx, field_eq_of_field_eq hx, apply_ite Instr.mnemonic,
      mnemonic_decodeCondBranchB]
    rfl
  · have hx : field g 11 2 = field h 11 2 := hx
    simp [decodeB, hc, e, hx, bit_eq_of_field_eq hx, apply_ite Instr.mnemonic]
    rfl

end

/-- The table and the decoder agree on the halfwords that are 0 but for the bits that name an instruction. -/
theorem namedBy_headB : ∀ (c : BitVec 3) (x : BitVec (opBits c)),
    OpcodeTable.namedBy (OpcodeTable.rowsB.filter fun r => field r.value 13 3 = c)
      (headB (BitVec.allOnes 3) (BitVec.allOnes (opBits c))) (headB c x)
      (decodeB (headB c x)).mnemonic = true := by decide

theorem exists_rowB (h : Half) :
    ∃ r ∈ OpcodeTable.rowsB, r.matches h = true ∧ (decodeB h).mnemonic = r.name := by
  have hk := opBits_le (field h 13 3)
  have hn := namedBy_headB (field h 13 3) (field h (13 - opBits (field h 13 3)) (opBits (field h 13 3)))
  rw [mnemonic_decodeB_congr (field_headB_class _ _ hk) (field_headB_op _ _ hk), ← and_headB_allOnes] at hn
  obtain ⟨r, hr, h⟩ := OpcodeTable.exists_row_of_namedBy hn
  exact ⟨r, List.mem_of_mem_filter hr, h⟩

/-- Settles O59: some row has the word and the name of what it decodes to, and no word belongs to two rows. -/
theorem decoderFollowsTable : Obligations.DecoderFollowsTable := by
  constructor
  · intro w
    obtain ⟨r, hr, hw, hn⟩ := exists_rowA w
    exact ⟨r, hr, hw, hn, fun q hq hqw => OpcodeTable.eq_of_matches OpcodeTable.rowsA_disjoint hr hq hw hqw⟩
  · intro h
    obtain ⟨r, hr, hw, hn⟩ := exists_rowB h
    exact ⟨r, hr, hw, hn, fun q hq hqw => OpcodeTable.eq_of_matches OpcodeTable.rowsB_disjoint hr hq hw hqw⟩

end Sys2Proof

/-! PROOFS. The statements about the condition flags, the conditions and the barrel shifter
(40_condition_flags_shifter.md). -/

namespace Sys2Proof

/-! ### The bits of negated, shifted and rotated words -/

theorem bit_of_ge {n : Nat} (x : BitVec n) {k : Nat} (h : n ≤ k) : bit x k = false := BitVec.getLsbD_of_ge x k h

theorem bit_not {n : Nat} (x : BitVec n) {k : Nat} (h : k < n) : bit (~~~x) k = !bit x k := by simp [bit, h]

@[simp] theorem bit_xor {n : Nat} (x y : BitVec n) (k : Nat) : bit (x ^^^ y) k = (bit x k ^^ bit y k) := by
  simp [bit]

theorem bit_shiftLeft {n : Nat} (x : BitVec n) (m : Nat) {k : Nat} (h : k < n) :
    bit (x <<< m) k = (decide (m ≤ k) && bit x (k - m)) := by
  rw [bit, BitVec.getLsbD_shiftLeft, decide_eq_true h, Bool.true_and, ← decide_not, decide_eq_decide.2 Nat.not_lt]
  rfl

theorem bit_ushiftRight {n : Nat} (x : BitVec n) (m k : Nat) : bit (x >>> m) k = bit x (k + m) := by
  simp [bit, Nat.add_comm]

/-- An arithmetic shift copies the top bit. -/
theorem bit_sshiftRight {n : Nat} (x : BitVec n) (m : Nat) {k : Nat} (h : k < n) :
    bit (x.sshiftRight m) k = bit x (min (k + m) (n - 1)) := by
  rw [bit, BitVec.getLsbD_sshiftRight, decide_eq_false (by omega), Nat.add_comm m k]
  split
  · rw [Nat.min_eq_left (by omega)]; rfl
  · rw [Nat.min_eq_right (by omega), BitVec.msb_eq_getLsbD_last]; rfl

/-- A rotation turns the bits modulo the width. -/
theorem bit_rotateRight {n : Nat} (x : BitVec n) (m : Nat) {k : Nat} (h : k < n) :
    bit (x.rotateRight m) k = bit x ((k + m) % n) := by
  have hm : m % n < n := Nat.mod_lt m (by omega)
  have hk : (k + m) % n = if k < n - m % n then m % n + k else k - (n - m % n) := by
    rw [Nat.add_mod, Nat.mod_eq_of_lt h]
    split
    · rw [Nat.mod_eq_of_lt (by omega), Nat.add_comm]
    · rw [Nat.mod_eq_sub_mod (by omega), Nat.mod_eq_of_lt (by omega)]; omega
  rw [hk, bit, BitVec.getLsbD_rotateRight]
  split <;> simp [bit, *]

theorem bit_setWidth {n m : Nat} (x : BitVec n) {k : Nat} (h : k < m) : bit (x.setWidth m) k = bit x k := by
  simp [bit, h]

theorem eq_of_bit {n : Nat} {x y : BitVec n} (h : ∀ k, k < n → bit x k = bit y k) : x = y :=
  BitVec.eq_of_getLsbD_eq h

/-! ### A word as a number and its sign -/

/-- Bit 31 splits the words in two halves. -/
theorem bit_31_eq_decide (x : Word) : bit x 31 = decide (2147483648 ≤ x.toNat) := BitVec.msb_eq_decide x

theorem toInt_eq_bit_31 (x : Word) : x.toInt = if bit x 31 then (x.toNat : Int) - 4294967296 else x.toNat :=
  BitVec.toInt_eq_msb_cond x

theorem bit_31_eq_neg (x : Word) : bit x 31 = decide (x.toInt < 0) :=
  BitVec.msb_eq_toInt (x := x)

end Sys2Proof

namespace Sys2Proof.Machine

open Sys2Proof.Safety

/-! ### The flag generator and its helpers (R184-R187) -/

theorem toNat_addWithCarry (a b : Word) (cin : Bool) :
    (addWithCarry a b cin).result.toNat = (a.toNat + b.toNat + cin.toNat) % 4294967296 := BitVec.toNat_ofNat ..

theorem carry_addWithCarry (a b : Word) (cin : Bool) :
    (addWithCarry a b cin).carry = decide (4294967296 ≤ a.toNat + b.toNat + cin.toNat) := rfl

theorem overflow_addWithCarry (a b : Word) (cin : Bool) : (addWithCarry a b cin).overflow =
    decide (a.toInt + b.toInt + cin.toNat < -2147483648 ∨ 2147483648 ≤ a.toInt + b.toInt + cin.toNat) :=
  (Bool.decide_or ..).symm

/-- The carry out of bit 31, from the two bits added and the bit they gave. -/
theorem carriedAdd_addWithCarry (a b : Word) (cin : Bool) :
    carriedAdd a b (addWithCarry a b cin).result = (addWithCarry a b cin).carry := by
  have hr := toNat_addWithCarry a b cin
  have hc := cin.toNat_le
  have ha := a.isLt
  have hb := b.isLt
  rw [Bool.eq_iff_iff, carry_addWithCarry]
  simp only [carriedAdd, bit_or, bit_and, bit_not, Nat.reduceLT]
  simp only [bit_31_eq_decide, hr, Bool.or_eq_true, Bool.and_eq_true, Bool.not_eq_true', decide_eq_true_eq,
    decide_eq_false_iff_not]
  omega

/-- The signed sum overflows when the two signs agree and the sign of the result differs. -/
theorem overflowedAdd_addWithCarry (a b : Word) (cin : Bool) :
    overflowedAdd a b (addWithCarry a b cin).result = (addWithCarry a b cin).overflow := by
  have hr := toNat_addWithCarry a b cin
  have hc := cin.toNat_le
  have ha := a.isLt
  have hb := b.isLt
  rw [Bool.eq_iff_iff, overflow_addWithCarry]
  simp only [overflowedAdd, bit_and, bit_xor]
  simp only [bit_31_eq_decide, hr, toInt_eq_bit_31, Bool.and_eq_true, bne_iff_ne, ne_eq, decide_eq_decide,
    decide_eq_true_eq]
  split <;> split <;> omega

/-- A subtraction borrows when the addition of the complement does not carry. -/
theorem borrowedSub_eq_not_carriedAdd (a b r : Word) : borrowedSub a b r = !carriedAdd a (~~~b) r := by
  simp only [borrowedSub, carriedAdd, bit_or, bit_and, bit_not, Nat.reduceLT]
  cases bit a 31 <;> cases bit b 31 <;> cases bit r 31 <;> rfl

theorem overflowedSub_eq_overflowedAdd (a b r : Word) : overflowedSub a b r = overflowedAdd a (~~~b) r := by
  simp only [overflowedSub, overflowedAdd, bit_and, bit_xor, bit_not, Nat.reduceLT]
  cases bit a 31 <;> cases bit b 31 <;> cases bit r 31 <;> rfl

/-- Adding the complement subtracts (R186). -/
theorem result_addWithCarry_not (a b : Word) (cin : Bool) :
    (addWithCarry a (~~~b) cin).result = a - b - (if cin then 0#32 else 1#32) := by
  apply BitVec.eq_of_toNat_eq
  rw [toNat_addWithCarry, BitVec.toNat_not, BitVec.toNat_sub, BitVec.toNat_sub]
  have ha := a.isLt
  have hb := b.isLt
  cases cin <;> simp <;> omega

/-- Settles O7: the helpers of an addition, and those of a subtraction as an addition of the complement. -/
theorem flagHelpersAgree : Obligations.FlagHelpersAgree := by
  intro a b cin
  refine ⟨carriedAdd_addWithCarry a b cin, overflowedAdd_addWithCarry a b cin, result_addWithCarry_not a b cin, ?_,
    ?_⟩
  · rw [← result_addWithCarry_not, borrowedSub_eq_not_carriedAdd, carriedAdd_addWithCarry]
  · rw [← result_addWithCarry_not, overflowedSub_eq_overflowedAdd, overflowedAdd_addWithCarry]

/-! ### The flags of a comparison (R180, R186) -/

theorem result_compare (a b : Word) : (addWithCarry a (~~~b) true).result = a - b := by
  rw [result_addWithCarry_not, if_pos rfl, BitVec.sub_zero]

/-- No borrow: the unsigned order. -/
theorem carry_compare (a b : Word) : (addWithCarry a (~~~b) true).carry = decide (b.toNat ≤ a.toNat) := by
  have hb := b.isLt
  simp only [addWithCarry, BitVec.toNat_not, Bool.toNat_true, decide_eq_decide]
  omega

theorem toInt_not_add_one (b : Word) : (~~~b).toInt + 1 = -b.toInt := by
  have hb := b.isLt
  simp only [toInt_eq_bit_31, bit_31_eq_decide, BitVec.toNat_not, decide_eq_true_eq]
  split <;> split <;> omega

/-- The exact difference leaves the signed words. -/
theorem overflow_compare (a b : Word) : (addWithCarry a (~~~b) true).overflow =
    decide (a.toInt - b.toInt < -2147483648 ∨ 2147483648 ≤ a.toInt - b.toInt) := by
  have hn := toInt_not_add_one b
  simp only [addWithCarry, Bool.toNat_true, ← Bool.decide_or, decide_eq_decide]
  omega

/-- The sign of the difference is that of the exact one unless it overflows: the signed order. -/
theorem sign_ne_overflow_compare (a b : Word) :
    (bit (a - b) 31 != (addWithCarry a (~~~b) true).overflow) = decide (a.toInt < b.toInt) := by
  have hr : (a - b).toInt = (a.toInt - b.toInt).bmod 4294967296 := BitVec.toInt_sub
  have ha := a.toInt_lt
  have ha' := a.le_toInt
  have hb := b.toInt_lt
  have hb' := b.le_toInt
  rw [Bool.eq_iff_iff, bit_31_eq_neg, overflow_compare, hr, Int.bmod_def]
  simp only [bne_iff_ne, ne_eq, decide_eq_decide, decide_eq_true_eq]
  omega

/-- The conditions read the flags a write of N, Z, C and V left (R180). -/
theorem passed_setNZCV (s : State) (out : AluOut) (c : Cond) :
    (s.setNZCV out).passed c = condPassed c (bit out.result 31) (out.result == 0#32) out.carry out.overflow := by
  simp [State.passed, State.setNZCV]

theorem passed_compare (s : State) (a b : Word) (c : Cond) :
    (s.setNZCV (addWithCarry a (~~~b) true)).passed c =
      condPassed c (bit (a - b) 31) (decide (a = b)) (decide (b.toNat ≤ a.toNat))
        (addWithCarry a (~~~b) true).overflow := by
  have hz : (a - b == 0#32) = decide (a = b) := decide_eq_decide.2 sub_eq_zero
  rw [passed_setNZCV, result_compare, carry_compare, hz]

/-- Settles O8: with the meaning of the flags put in, the conditions are about equality and the two orders. -/
theorem conditionsAfterCompare : Obligations.ConditionsAfterCompare := by
  intro s a b t
  have hp : ∀ c, t.passed c = _ := passed_compare s a b
  have hlt := sign_ne_overflow_compare a b
  have hge : (bit (a - b) 31 == (addWithCarry a (~~~b) true).overflow) = !decide (a.toInt < b.toInt) := by
    rw [← hlt, bne, Bool.not_not]
  have hu : a = b ↔ a.toNat = b.toNat := BitVec.toNat_inj.symm
  have hi : a = b ↔ a.toInt = b.toInt := BitVec.toInt_inj.symm
  simp only [hp, condPassed, hlt, hge, Bool.and_eq_true, Bool.or_eq_true, Bool.not_eq_true', decide_eq_true_eq,
    decide_eq_false_iff_not, true_and]
  refine ⟨Nat.not_le, ?_, ?_, Int.not_lt, ?_, ?_, ?_, ?_, ?_⟩
  · rw [hu]; omega
  · rw [hu]; omega
  · rw [hi]; omega
  · rw [hi]; omega
  · rw [overflow_compare, decide_eq_true_eq]; omega
  · rw [overflow_compare, decide_eq_false_iff_not]; omega
  · refine (Prod.forall (p := fun p => p ∈ _ → s.passed p.1 = p.2)).1 ?_
    have hne : (s.flagN != s.flagV) = decide (s.flagN ≠ s.flagV) := decide_not.symm
    simp only [List.forall_mem_cons]
    exact ⟨rfl, rfl, rfl, rfl, rfl, rfl, rfl, rfl, rfl, rfl, rfl, hne, rfl, congrArg (s.flagZ || ·) hne, rfl, rfl,
      List.forall_mem_nil _⟩

/-! ### The barrel shifter (R190-R197) -/

theorem bit_signFill (v : Word) {k : Nat} (h : k < 32) : bit (signFill v) k = bit v 31 := by
  unfold signFill
  cases bit v 31
  · simp [bit]
  · show bit (BitVec.allOnes 32) k = true
    rw [bit, BitVec.getLsbD_allOnes, decide_eq_true h]

theorem sshiftRight_eq_signFill (v : Word) {n : Nat} (h : 32 ≤ n) : v.sshiftRight n = signFill v := by
  refine eq_of_bit fun k hk => ?_
  rw [bit_sshiftRight v n hk, bit_signFill v hk, Nat.min_eq_right (by omega)]

section Shift

variable {n : Nat} (hn : 0 < n) (fromReg : Bool) (v : Word) (cin : Bool)
include hn

/-- For an amount of 1 or more both paths are the plain shift of a word, and the carry is the last bit moved out. -/
theorem shift_lsl : shift .lsl n fromReg v cin = ⟨v <<< n, decide (n ≤ 32) && bit v (32 - n)⟩ := by
  simp only [shift, if_neg hn.ne']
  rcases lt_trichotomy n 32 with h | rfl | h
  · simp [h, h.le]
  · simp [BitVec.shiftLeft_eq_zero]
  · simp [BitVec.shiftLeft_eq_zero h.le, h.not_gt, h.ne', h.not_ge]

theorem shift_lsr : shift .lsr n fromReg v cin = ⟨v >>> n, bit v (n - 1)⟩ := by
  simp only [shift, if_neg hn.ne']
  rcases lt_trichotomy n 32 with h | rfl | h
  · simp [h]
  · simp [BitVec.ushiftRight_eq_zero]
  · simp [BitVec.ushiftRight_eq_zero h.le, h.not_gt, h.ne', bit_of_ge v (Nat.le_sub_one_of_lt h)]

theorem shift_asr : shift .asr n fromReg v cin = ⟨v.sshiftRight n, bit v (min (n - 1) 31)⟩ := by
  simp only [shift, if_neg hn.ne']
  by_cases h : n < 32
  · rw [Nat.min_eq_left (by omega), if_pos h]
  · rw [Nat.min_eq_right (by omega), sshiftRight_eq_signFill v (by omega), if_neg h]

theorem shift_ror : shift .ror n fromReg v cin = ⟨v.rotateRight n, bit v ((n - 1) % 32)⟩ := by
  simp only [shift, if_neg hn.ne']
  by_cases h : n % 32 = 0
  · have hv : v.rotateRight n = v := eq_of_bit fun k hk => by
      rw [bit_rotateRight v n hk, (by omega : (k + n) % 32 = k)]
    rw [(by omega : (n - 1) % 32 = 31), hv, if_pos h]
  · rw [(by omega : (n - 1) % 32 = n % 32 - 1), BitVec.rotateRight_mod_eq_rotateRight, if_neg h]

end Shift

/-- The bits of RRX (R194): the carry-in comes in at the top. -/
theorem bit_rrx (v : Word) (cin : Bool) {k : Nat} (hk : k < 32) :
    bit (shift .ror 0 false v cin).value k = if k = 31 then cin else bit v (k + 1) := by
  show bit (((BitVec.ofBool cin).setWidth 32 <<< 31) ||| (v >>> 1)) k = _
  rw [bit_or, bit_shiftLeft _ _ hk, bit_ushiftRight]
  split
  · next h => subst h; rw [bit_of_ge v (by omega)]; simp [bit]
  · rw [decide_eq_false (by omega), Bool.false_and, Bool.false_or]

/-- Settles O9: both paths are plain shifts of a word, whose bits are known. -/
theorem shifterBits : Obligations.ShifterBits := by
  intro v cin n
  refine ⟨fun _ => rfl, fun hn fromReg => ?_, rfl, rfl, rfl, fun k => bit_rrx v cin, rfl⟩
  rw [shift_lsl hn, shift_lsr hn, shift_asr hn, shift_ror hn]
  exact ⟨fun k => bit_shiftLeft v n, rfl, fun k _ => bit_ushiftRight v n k, rfl, fun k => bit_sshiftRight v n, rfl,
    fun k => bit_rotateRight v n, rfl⟩

/-- Settles O10: the value is a rotated word; the carry is R197's own case split. -/
theorem rotatedImmediate : Obligations.RotatedImmediate := by
  intro rotate imm8 cin
  refine ⟨fun k hk => ?_, rfl⟩
  show bit ((imm8.setWidth 32).rotateRight (2 * rotate.toNat)) k = _
  rw [bit_rotateRight _ _ hk, bit_setWidth _ (Nat.mod_lt _ (by decide))]

/-! ### A failed condition (R181, R182) -/

theorem ifPassed_of_failed {c : Cond} {s : State} (h : s.passed c = false) (go : Result) : ifPassed c s go = .next s :=
  if_neg (by simp [h])

/-- Every instruction with a condition tests it before anything else (R182). -/
theorem exec_eq_ifPassed {i : Instr} {c : Cond} (h : conditionOf i = some c) (s : State) :
    ∃ go, exec i s = ifPassed c s go := by
  cases i <;> cases h <;> exact ⟨_, rfl⟩

/-- Settles O11, from the one test of the condition. -/
theorem failedCondition : Obligations.FailedCondition := by
  intro i c s hi hc
  obtain ⟨go, h⟩ := exec_eq_ifPassed hi s
  rw [h, ifPassed_of_failed hc]

end Sys2Proof.Machine

/-! PROOFS. The statements about Set-A data processing and the PSR transfers (41_setA_data_processing.md). -/

namespace Sys2Proof.Safety

open Sys2Proof.Machine

/-! ### Frames of register writes -/

/-- Of everything a frame speaks of only the listed register slots may differ; memory is not accessed and no free value
is used. -/
structure OnlySlots (ks : List (Fin 37)) (s t : State) : Prop where
  frame : Frame ks s t
  access : NoAccess s t
  draws : t.draws = s.draws

namespace OnlySlots

theorem refl (s : State) : OnlySlots [] s s := ⟨⟨fun _ _ => rfl, .refl s⟩, ⟨fun _ => rfl, rfl⟩, rfl⟩

theorem trans {ks ls : List (Fin 37)} {s t u : State} (h : OnlySlots ks s t) (g : OnlySlots ls t u) :
    OnlySlots (ks ++ ls) s u where
  frame.slots k hk := by
    rw [List.mem_append, not_or] at hk
    exact (g.frame.slots k hk.2).trans (h.frame.slots k hk.1)
  frame.outside := h.frame.outside.trans g.frame.outside
  access.memory a := (g.access.memory a).trans (h.access.memory a)
  access.port := g.access.port.trans h.access.port
  draws := g.draws.trans h.draws

theorem mono {ks ls : List (Fin 37)} {s t : State} (h : OnlySlots ks s t) (hl : ks ⊆ ls) : OnlySlots ls s t :=
  ⟨⟨fun k hk => h.frame.slots k fun hk' => hk (hl hk'), h.frame.outside⟩, h.access, h.draws⟩

theorem setSlot (s : State) (k : Fin 37) (v : Word) : OnlySlots [k] s (s.setSlot k v) where
  frame.slots j hj := by rw [State.slot_setSlot, if_neg (by simpa using hj)]
  frame.outside := by constructor <;> rfl
  access := ⟨fun _ => rfl, rfl⟩
  draws := rfl

theorem setCpsr (s : State) (v : Word) : OnlySlots [16] s (s.setCpsr v) := setSlot s 16 v

theorem setNZCV (s : State) (out : AluOut) : OnlySlots [16] s (s.setNZCV out) := setCpsr s _

theorem writePc (s : State) (v : Word) : OnlySlots [15] s (s.writePc v) :=
  ⟨⟨(setSlot s 15 v).frame.slots, (Plain.writePc s v).outside⟩, ⟨fun _ => rfl, rfl⟩, rfl⟩

theorem setReg (s : State) (r : Reg) (v : Word) : OnlySlots [regSlot s.bank r] s (s.setReg r v) := by
  unfold State.setReg
  split
  · next h =>
    obtain rfl : r = 15 := Fin.ext h
    rw [regSlot_pc]
    exact writePc s v
  · exact setSlot s _ v

theorem setSpsr {s : State} {k : Fin 37} (h : s.bank.spsrSlot = some k) (v : Word) :
    OnlySlots [k] s (s.setSpsr v) := by
  unfold State.setSpsr
  rw [h]
  exact setSlot s k v

end OnlySlots

/-! ### Flags -/

theorem Flags.of_cpsr_eq {s t : State} (h : t.cpsr = s.cpsr) (n z c v : Bool) : Flags false n z c v s t where
  n := congrArg (bit · 31) h
  z := congrArg (bit · 30) h
  c := congrArg (bit · 29) h
  v := congrArg (bit · 28) h
  rest k _ := congrArg (bit · k) h

/-- The flag write of a result, after register writes. -/
theorem Flags.setNZCV {s u : State} (h : u.cpsr = s.cpsr) (out : AluOut) :
    Flags true (bit out.result 31) (out.result == 0#32) out.carry out.overflow s (u.setNZCV out) where
  n := State.flagN_setFlags ..
  z := State.flagZ_setFlags ..
  c := State.flagC_setFlags ..
  v := State.flagV_setFlags ..
  rest k hk := ((Plain.setNZCV u out).control k hk).trans (congrArg (bit · k) h)

end Sys2Proof.Safety

namespace Sys2Proof.Machine

open Sys2Proof.Safety

/-! ### The sixteen operations in plain numbers (R185, R186, R224-R239) -/

theorem addWithCarry_eq (a b : Word) (cin : Bool) : addWithCarry a b cin =
    ⟨a + b + if cin then 1#32 else 0#32, decide (2 ^ 32 ≤ a.toNat + b.toNat + cin.toNat),
      outOfRange (a.toInt + b.toInt + cin.toNat)⟩ := by
  have hr : (addWithCarry a b cin).result = a + b + if cin then 1#32 else 0#32 := by
    apply BitVec.eq_of_toNat_eq
    rw [toNat_addWithCarry]
    cases cin <;> simp
  rw [← hr]
  exact congrArg (AluOut.mk _ _) (overflow_addWithCarry a b cin)

/-- A subtraction, the carry being "no borrow" (R186). -/
theorem addWithCarry_not_eq (a b : Word) (cin : Bool) : addWithCarry a (~~~b) cin =
    ⟨a - b - if cin then 0#32 else 1#32, decide (b.toNat + (!cin).toNat ≤ a.toNat),
      outOfRange (a.toInt - b.toInt - (!cin).toNat)⟩ := by
  have hn : (~~~b).toNat = 4294967295 - b.toNat := BitVec.toNat_not
  have hi := toInt_not_add_one b
  have hb := b.isLt
  have hcin : cin.toNat + (!cin).toNat = 1 := by cases cin <;> rfl
  have hc : (addWithCarry a (~~~b) cin).carry = decide (b.toNat + (!cin).toNat ≤ a.toNat) := by
    rw [carry_addWithCarry, decide_eq_decide]; omega
  have hv : (addWithCarry a (~~~b) cin).overflow = outOfRange (a.toInt - b.toInt - (!cin).toNat) := by
    rw [overflow_addWithCarry, outOfRange, decide_eq_decide]; omega
  rw [← hc, ← hv, ← result_addWithCarry_not]

/-- The result, C and V of an operation in plain numbers. -/
def aluOut (op : DpOp) (a : Word) (op2 : Shifted) (c v : Bool) : AluOut :=
  ⟨aluResult op a op2.value c, aluCarry op a op2.value c op2.carry, aluOverflow op a op2.value c v⟩

theorem compute_eq_aluOut (op : DpOp) (a : Word) (op2 : Shifted) (c v : Bool) :
    compute op a op2 c v = aluOut op a op2 c v := by
  cases op
  case and | eor | tst | teq | orr | mov | bic | mvn => rfl
  case add | cmn | adc => simp [compute, addWithCarry_eq, aluOut, aluResult, aluCarry, aluOverflow]
  case sub | cmp | rsb | sbc | rsc => simp [compute, addWithCarry_not_eq, aluOut, aluResult, aluCarry, aluOverflow]

/-! ### The common procedure (R220-R223) -/

/-- As `exec_dpImm`, for the form shifted by a register. -/
theorem exec_dpRegReg (op : DpOp) (cond : Cond) (sf : Bool) (rn rd rs : Reg) (sh : ShiftType) (rm : Reg) (s : State) :
    exec (Instr.dpRegReg op cond sf rn rd rs sh rm) s =
      dataProcRegReg op cond (!writesRd op || sf) rn rd rs sh rm s := by
  cases op <;> rfl

theorem operandRegReg_eq (s : State) (rs : Reg) (sh : ShiftType) (rm : Reg) : s.operandRegReg rs sh rm =
    shift sh ((s.reg rs).toNat % 256) true (s.reg rm) s.flagC := by
  rw [State.operandRegReg, toNat_byteOf, pow_zero, Nat.div_one]

/-- What is left of the common procedure once the condition has passed. -/
theorem dataProc_of_passed {cond : Cond} {s : State} (hc : s.passed cond = true) (op : DpOp) (sets : Bool)
    (rn rd : Reg) (op2 : Shifted) : dataProc op cond sets rn rd op2 s =
      writeDp (writesRd op) sets rd (compute op (firstOperand op rn s) op2 s.flagC s.flagV) s :=
  ifPassed_of_passed hc _

/-- The state with the result in Rd, where the operation writes it. -/
def writeResult (hasRd : Bool) (rd : Reg) (r : Word) (s : State) : State := if hasRd then s.setReg rd r else s

section WriteResult

variable {hasRd : Bool} {rd : Reg} (r : Word) (s : State)

theorem cpsr_writeResult : (writeResult hasRd rd r s).cpsr = s.cpsr := by
  cases hasRd with
  | false => rfl
  | true => exact State.cpsr_setReg s rd r

theorem reg_writeResult (h : hasRd = true) : (writeResult hasRd rd r s).reg rd = r := by
  rw [writeResult, if_pos h, State.reg_setReg, if_pos rfl]

theorem onlySlots_writeResult :
    OnlySlots (if hasRd then [regSlot s.bank rd] else []) s (writeResult hasRd rd r s) := by
  cases hasRd with
  | false => exact .refl s
  | true => exact .setReg s rd r

variable (h : hasRd = true → rd ≠ 15)
include h

theorem branchPending_writeResult : (writeResult hasRd rd r s).branchPending = s.branchPending := by
  cases hasRd with
  | false => rfl
  | true => simp [writeResult, h rfl]

omit r in
/-- A result for another register than R15, and its flags (R220). -/
theorem writeDp_of_ne (sets : Bool) (out : AluOut) : writeDp hasRd sets rd out s =
    .next (if sets then (writeResult hasRd rd out.result s).setNZCV out else writeResult hasRd rd out.result s) := by
  cases hasRd with
  | false => rfl
  | true => simp [writeDp, writeResult, h rfl]

end WriteResult

/-- The common procedure with another destination than R15. -/
theorem dataProc_effect {op : DpOp} {cond : Cond} {rd : Reg} {s : State} (hc : s.passed cond = true)
    (hrd : writesRd op = true → rd ≠ 15) (sets : Bool) (rn : Reg) (op2 : Shifted) :
    ∃ t, dataProc op cond sets rn rd op2 s = .next t ∧ DpEffect op sets rd (firstOperand op rn s) op2 s t := by
  let out := aluOut op (firstOperand op rn s) op2 s.flagC s.flagV
  refine ⟨_, by rw [dataProc_of_passed hc, compute_eq_aluOut, writeDp_of_ne s hrd], ?_⟩
  have hcpsr := cpsr_writeResult (hasRd := writesRd op) (rd := rd) out.result s
  have hpend := branchPending_writeResult out.result s hrd
  have honly := onlySlots_writeResult (hasRd := writesRd op) (rd := rd) out.result s
  cases sets with
  | false =>
    have h := honly.mono (List.subset_append_left _ [16])
    exact ⟨reg_writeResult out.result s, .of_cpsr_eq hcpsr .., h.frame, hpend, h.draws, h.access⟩
  | true =>
    have h := honly.trans (.setNZCV _ out)
    exact ⟨fun hw => (State.reg_setNZCV ..).trans (reg_writeResult out.result s hw), .setNZCV hcpsr out, h.frame,
      hpend, h.draws, h.access⟩

/-- Settles O12. -/
theorem dpImmediate : Obligations.DpImmediate := by
  intro op cond sf rn rd rotate imm8 s hc hrd
  rw [exec_dpImm, Bool.or_comm]
  exact dataProc_effect hc hrd ..

/-- Settles O13. -/
theorem dpImmediateShift : Obligations.DpImmediateShift := by
  intro op cond sf rn rd amount sh rm s hc hrd
  rw [exec_dpRegImm, Bool.or_comm]
  exact dataProc_effect hc hrd ..

/-! ### R15 in the register-shifted-by-register form (R198, R223) -/

/-- A field the operation uses is R15. -/
abbrev UsesR15 (op : DpOp) (rn rd rs rm : Reg) : Prop :=
  (usesRn op = true ∧ rn = 15) ∨ (writesRd op = true ∧ rd = 15) ∨ rm = 15 ∨ rs = 15

theorem registerShiftViolation_eq (op : DpOp) (rn rd rs rm : Reg) : registerShiftViolation op rn rd rs rm =
    if UsesR15 op rn rd rs rm then some .registerShiftR15 else none := by
  simp only [registerShiftViolation, firstViolation_cons, firstViolation_nil, Bool.and_eq_true, beq_iff_eq, ite_or]

/-- The form stops on R15, else it is the common procedure. -/
theorem exec_dpRegReg_of_passed {cond : Cond} {s : State} (hc : s.passed cond = true) (op : DpOp) (sf : Bool)
    (rn rd rs : Reg) (sh : ShiftType) (rm : Reg) : exec (Instr.dpRegReg op cond sf rn rd rs sh rm) s =
      if UsesR15 op rn rd rs rm then s.unpredictable .registerShiftR15
      else dataProc op cond (!writesRd op || sf) rn rd
        (shift sh ((s.reg rs).toNat % 256) true (s.reg rm) s.flagC) s := by
  rw [exec_dpRegReg, dataProcRegReg, ifPassed_of_passed hc, registerShiftViolation_eq, operandRegReg_eq]
  split <;> rfl

/-- Settles O14. -/
theorem dpRegisterShift : Obligations.DpRegisterShift := by
  intro op cond sf rn rd rs sh rm s hc hrd hrn hrs hrm
  have hu : ¬UsesR15 op rn rd rs rm := by
    rintro (⟨h, e⟩ | ⟨h, e⟩ | e | e)
    exacts [hrn h e, hrd h e, hrm e, hrs e]
  rw [exec_dpRegReg_of_passed hc, if_neg hu, Bool.or_comm]
  exact dataProc_effect hc hrd ..

/-- R36: R15 is two instruction widths past the instruction. -/
theorem reg_pc (s : State) : s.reg 15 = s.instrAddr + (if s.tbit then 4#32 else 8#32) := by
  have hw : 2#32 * s.inc = if s.tbit then 4#32 else 8#32 := by unfold State.inc; cases s.tbit <;> rfl
  rw [State.reg, regSlot_pc, State.instrAddr, hw, BitVec.sub_add_cancel]

/-- Settles O17. -/
theorem operandR15 : Obligations.OperandR15 := by
  intro op cond sf rn rd rs sh rm s
  refine ⟨reg_pc s, fun hc => ?_⟩
  rw [exec_dpRegReg_of_passed hc]
  split
  · rfl
  · next hu =>
    obtain ⟨t, ht, -⟩ := dataProc_effect hc (fun hw e => hu (.inr (.inl ⟨hw, e⟩))) (!writesRd op || sf) rn
      (shift sh ((s.reg rs).toNat % 256) true (s.reg rm) s.flagC)
    exact ⟨t, ht⟩

/-! ### R15 as the destination (R221, R222) -/

/-- The immediate and the register-shifted-by-immediate form of an operation, with their operand 2 (R197, R198). -/
abbrev IsDpForm (op : DpOp) (cond : Cond) (sf : Bool) (rn rd : Reg) (i : Instr) (op2 : Shifted) (s : State) : Prop :=
  (∃ rotate imm8, i = Instr.dpImm op cond sf rn rd rotate imm8 ∧ op2 = operandImm rotate imm8 s.flagC) ∨
    (∃ amount sh rm, i = Instr.dpRegImm op cond sf rn rd amount sh rm ∧
      op2 = shift sh amount.toNat false (s.reg rm) s.flagC)

/-- Both forms with R15 as the destination write the result there, by way of the SPSR where S = 1. -/
theorem exec_dpForm_pc {op : DpOp} {cond : Cond} {sf : Bool} {rn : Reg} {i : Instr} {op2 : Shifted} {s : State}
    (hc : s.passed cond = true) (hw : writesRd op = true) (hi : IsDpForm op cond sf rn 15 i op2 s) :
    exec i s =
      if sf then andThen (copySpsrToCpsr s) fun t =>
        .next (t.writePc (aluResult op (firstOperand op rn s) op2.value s.flagC))
      else .next (s.writePc (aluResult op (firstOperand op rn s) op2.value s.flagC)) := by
  have he : exec i s = dataProc op cond sf rn 15 op2 s := by
    rcases hi with ⟨rotate, imm8, rfl, rfl⟩ | ⟨amount, sh, rm, rfl, rfl⟩
    · rw [exec_dpImm, hw]; rfl
    · rw [exec_dpRegImm, hw]; rfl
  rw [he, dataProc_of_passed hc, compute_eq_aluOut, hw]
  rfl

/-- Settles O15. -/
theorem dpBranches : Obligations.DpBranches := by
  intro op cond rn i op2 s hc hw hi
  have h := OnlySlots.writePc s (aluResult op (firstOperand op rn s) op2.value s.flagC)
  exact ⟨_, exec_dpForm_pc hc hw hi, by simp, rfl, h.frame, h.access, h.draws⟩

theorem copySpsrToCpsr_of_some {s : State} {v : Word} (h : s.spsr = some v) :
    copySpsrToCpsr s = if validMode v then .next (s.setCpsr v) else .fault (.invalidMode v) := by
  unfold copySpsrToCpsr
  rw [h]

/-- Settles O16. -/
theorem exceptionReturn : Obligations.ExceptionReturn := by
  intro op cond rn i op2 s hc hw hi
  rw [exec_dpForm_pc hc hw hi, if_pos rfl]
  refine ⟨fun hs => ?_, fun v hs hv => ?_, fun v hs hv => ?_⟩
  · rw [copySpsrToCpsr_of_none hs]; rfl
  · rw [copySpsrToCpsr_of_some hs, hv]; rfl
  · rw [copySpsrToCpsr_of_some hs, hv]
    have h := ((OnlySlots.setCpsr s v).trans (.writePc _ (aluResult op (firstOperand op rn s) op2.value s.flagC))).mono
      (List.Perm.swap 15 16 []).subset
    exact ⟨_, rfl, by simp, by simp, rfl, h.frame, h.access, h.draws⟩

/-! ### MSR (R241-R244) -/

/-- A bit of a word taken from `val` where the mask selects it, else kept. -/
theorem bit_merge (old val m : Word) {k : Nat} (hk : k < 32) :
    bit ((old &&& ~~~m) ||| (val &&& m)) k = if bit m k = true then bit val k else bit old k := by
  rw [bit_or, bit_and, bit_and, bit_not m hk]
  cases bit m k <;> simp

/-- The mask selects bytes (R126). -/
theorem bit_maskBytes (mask : BitVec 4) {k : Nat} (hk : k < 32) : bit (maskBytes mask) k = bit mask (k / 8) := by
  have hb : ∀ (b : Bool) (w : Word), bit (if b then w else 0#32) k = (b && bit w k) := by
    intro b w; cases b <;> simp [bit]
  simp only [maskBytes, bit_or, hb, bit_lit]
  interval_cases k <;> simp

/-- In User mode the bits below the flag byte are not writable (R241). -/
theorem bit_writableBits (s : State) (mask : BitVec 4) {k : Nat} (hk : k < 32) :
    bit (s.writableBits mask) k = true ↔
      bit mask (k / 8) = true ∧ (s.modeBits = Mode.user.bits → 24 ≤ k) := by
  have hf : bit (0xFF000000#32) k = decide (24 ≤ k) := by interval_cases k <;> rfl
  unfold State.writableBits
  split
  · next h => simp [h, bit_maskBytes mask hk, hf]
  · next h => simp [h, bit_maskBytes mask hk]

/-- Both forms of MSR write their operand (R243, R244). -/
theorem exec_msr {cond : Cond} {psr : Psr} {mask rotate : BitVec 4} {imm8 : BitVec 8} {rm : Reg} {i : Instr}
    {val : Word} {s : State} (hc : s.passed cond = true)
    (hi : i = .msrReg cond psr mask rm ∧ rm ≠ 15 ∧ val = s.reg rm ∨
      i = .msrImm cond psr mask rotate imm8 ∧ val = rotatedImm rotate imm8) :
    exec i s = writePsr psr mask val s := by
  rcases hi with ⟨rfl, hrm, rfl⟩ | ⟨rfl, rfl⟩
  · show execMsrReg cond psr mask rm s = _
    simp [execMsrReg, ifPassed_of_passed hc, hrm]
  · exact ifPassed_of_passed hc _

theorem acceptCpsr_of_ne {new : Word} {s : State} (h : bit new 5 ≠ s.tbit) :
    acceptCpsr new s = s.unpredictable .msrChangesT :=
  if_pos (bne_iff_ne.2 h)

theorem acceptCpsr_of_eq {new : Word} {s : State} (h : bit new 5 = s.tbit) :
    acceptCpsr new s = if validMode new then .next (s.setCpsr new) else .fault (.invalidMode new) := by
  rw [acceptCpsr, h, bne_self_eq_false]
  rfl

/-- Settles O19: the CPSR asked for is the merged word, bit by bit. -/
theorem msrCpsr : Obligations.MsrCpsr := by
  intro cond mask rotate imm8 rm i val new s hc hi hnew
  have hmerge : new = (s.cpsr &&& ~~~s.writableBits mask) ||| (val &&& s.writableBits mask) :=
    eq_of_bit fun k hk => by rw [hnew k hk, bit_merge _ _ _ hk]; simp only [bit_writableBits s mask hk]
  have he : exec i s = acceptCpsr new s := by rw [exec_msr hc hi, hmerge]; rfl
  rw [he]
  by_cases ht : bit new 5 = s.tbit
  · rw [if_neg (not_not_intro ht), acceptCpsr_of_eq ht]
    cases hv : validMode new with
    | false => rfl
    | true =>
      have h := OnlySlots.setCpsr s new
      exact ⟨_, rfl, State.cpsr_setCpsr s new, h.frame, h.access, rfl, h.draws⟩
  · rw [if_pos ht, acceptCpsr_of_ne ht]

/-- Settles O20. -/
theorem msrSpsr : Obligations.MsrSpsr := by
  intro cond psr mask rotate imm8 rm i val s hc
  refine ⟨ifPassed_of_passed hc _, fun hi => ?_⟩
  rw [exec_msr hc hi]
  refine ⟨fun hs => writePsr_spsr_of_none hs mask val, fun k hk => ?_⟩
  refine ⟨s.setSpsr ((s.slot k &&& ~~~maskBytes mask) ||| (val &&& maskBytes mask)),
    writeSpsrByMsr_eq_next.2 ⟨_, spsr_eq_some.2 ⟨k, hk, rfl⟩, rfl⟩, fun j hj => ?_, ?_⟩
  · rw [slot_setSpsr hk, if_pos rfl, bit_merge _ _ _ hj, bit_maskBytes mask hj]
  · have h := OnlySlots.setSpsr hk ((s.slot k &&& ~~~maskBytes mask) ||| (val &&& maskBytes mask))
    exact ⟨h.frame, h.access, State.branchPending_setSpsr .., h.draws⟩

/-! ### MRS (R240) -/

theorem execMrs_of_readPsr {cond : Cond} {psr : Psr} {rd : Reg} {v : Word} {s : State} (hc : s.passed cond = true)
    (hrd : rd ≠ 15) (hv : s.readPsr psr = some v) : execMrs cond psr rd s = .next (s.setReg rd v) := by
  simp [execMrs, ifPassed_of_passed hc, hrd, hv]

/-- Settles O18. -/
theorem mrsReadsStatus : Obligations.MrsReadsStatus := by
  intro cond psr rd s hc
  refine ⟨ifPassed_of_passed hc _, fun hrd hs => execMrs_spsr_of_none hs hc hrd, fun v hrd hv => ?_⟩
  have hread : s.readPsr psr = some v := by
    rcases hv with ⟨rfl, rfl⟩ | ⟨rfl, hs⟩
    exacts [rfl, hs]
  have h := OnlySlots.setReg s rd v
  refine ⟨_, execMrs_of_readPsr hc hrd hread, ?_, State.cpsr_setReg .., h.frame, h.access, ?_, h.draws⟩
  · rw [State.reg_setReg, if_pos rfl]
  · simp [hrd]

end Sys2Proof.Machine

/-! PROOFS. The statements about the multiplies (42_setA_multiply.md). -/

namespace Sys2Proof.Machine

open Sys2Proof.Safety

/-! ### Operand constraints (R270) -/

theorem mulViolation_eq (rd : Reg) (rn : Option Reg) (rs rm : Reg) : mulViolation rd rn rs rm =
    if rd = 15 ∨ rm = 15 ∨ rs = 15 ∨ rn = some 15 ∨ rd = rm then some .multiplyOperands else none := by
  simp only [mulViolation, firstViolation_cons, firstViolation_nil, Bool.or_eq_true, beq_iff_eq, ite_or]

theorem mullViolation_eq (hi lo rs rm : Reg) : mullViolation hi lo rs rm =
    if hi = 15 ∨ lo = 15 ∨ rm = 15 ∨ rs = 15 ∨ hi = lo ∨ hi = rm ∨ lo = rm then some .multiplyOperands
    else none := by
  simp only [mullViolation, firstViolation_cons, firstViolation_nil, Bool.or_eq_true, beq_iff_eq, ite_or]

section Passed

variable {cond : Cond} {s : State} (hc : s.passed cond = true)
include hc

theorem exec_mul_of_passed (sf : Bool) (rd rs rm : Reg) : exec (.mul cond sf rd rs rm) s =
    checked (mulViolation rd none rs rm) s (finishMul sf rd (s.reg rm * s.reg rs) s) :=
  ifPassed_of_passed hc _

theorem exec_mla_of_passed (sf : Bool) (rd rn rs rm : Reg) : exec (.mla cond sf rd rn rs rm) s =
    checked (mulViolation rd (some rn) rs rm) s (finishMul sf rd (s.reg rm * s.reg rs + s.reg rn) s) :=
  ifPassed_of_passed hc _

end Passed

/-- The long multiply of the given signedness, accumulating or not. -/
def longMultiply (signed accumulate : Bool) (cond : Cond) (sf : Bool) (hi lo rs rm : Reg) : Instr :=
  match signed, accumulate with
  | false, false => .umull cond sf hi lo rs rm
  | false, true => .umlal cond sf hi lo rs rm
  | true, false => .smull cond sf hi lo rs rm
  | true, true => .smlal cond sf hi lo rs rm

/-- The 64 bits a long multiply writes (R273-R276). -/
def longResult (signed accumulate : Bool) (hi lo rs rm : Reg) (s : State) : BitVec 64 :=
  let p := if signed then signedProduct (s.reg rm) (s.reg rs) else unsignedProduct (s.reg rm) (s.reg rs)
  if accumulate then p + s.accumulator hi lo else p

/-- The four long multiplies are one procedure. -/
theorem exec_longMultiply_of_passed {cond : Cond} {s : State} (hc : s.passed cond = true)
    (signed accumulate sf : Bool) (hi lo rs rm : Reg) :
    exec (longMultiply signed accumulate cond sf hi lo rs rm) s =
      checked (mullViolation hi lo rs rm) s (finishMull sf hi lo (longResult signed accumulate hi lo rs rm s) s) := by
  cases signed <;> cases accumulate <;> exact ifPassed_of_passed hc _

/-- Settles O24: the four long forms share one operand check. -/
theorem multiplyStops : Obligations.MultiplyStops := by
  intro cond sf rd rn hi lo rs rm s hc
  refine ⟨fun h => ?_, fun h => ?_, fun h => ?_⟩
  · rw [exec_mul_of_passed hc, mulViolation_eq, if_pos (by simpa using h), checked_some]
  · rw [exec_mla_of_passed hc, mulViolation_eq, if_pos (by simpa using h), checked_some]
  · have hstop (signed accumulate : Bool) : exec (longMultiply signed accumulate cond sf hi lo rs rm) s =
        s.unpredictable .multiplyOperands := by
      rw [exec_longMultiply_of_passed hc, mullViolation_eq, if_pos h, checked_some]
    exact ⟨hstop false false, hstop false true, hstop true false, hstop true true⟩

/-! ### Flags with free values (R278) -/

/-- The flag write of a multiply: where `sets` holds the four flags are written and `used` free values are gone. -/
def State.drawFlags (sets n z c v : Bool) (used : Nat) (s : State) : State :=
  if sets then (s.setFlags n z c v).drew used else s

@[simp] theorem State.reg_drawFlags (sets n z c v : Bool) (used : Nat) (s : State) (r : Reg) :
    (s.drawFlags sets n z c v used).reg r = s.reg r := by
  cases sets with
  | false => rfl
  | true => exact State.reg_setFlags ..

theorem flags_setFlags_drew {s u : State} (h : u.cpsr = s.cpsr) (n z c v : Bool) (used : Nat) :
    Flags true n z c v s ((u.setFlags n z c v).drew used) where
  n := State.flagN_setFlags ..
  z := State.flagZ_setFlags ..
  c := State.flagC_setFlags ..
  v := State.flagV_setFlags ..
  rest k hk := ((Plain.setFlags u n z c v).control k hk).trans (congrArg (bit · k) h)

/-- What an instruction does that writes the registers `ks` and then, where `sets` holds, the four flags with `used`
free values. -/
structure DrawEffect (ks : List (Fin 37)) (sets n z c v : Bool) (used : Nat) (s t : State) : Prop where
  flags : Flags sets n z c v s t
  frame : Frame (ks ++ [16]) s t
  access : NoAccess s t
  pending : t.branchPending = s.branchPending
  draws : t.draws = s.draws + if sets then used else 0

theorem drawEffect_drawFlags {ks : List (Fin 37)} {s u : State} (h : OnlySlots ks s u) (hcpsr : u.cpsr = s.cpsr)
    (hpend : u.branchPending = s.branchPending) (sets n z c v : Bool) (used : Nat) :
    DrawEffect ks sets n z c v used s (u.drawFlags sets n z c v used) := by
  cases sets with
  | false =>
    have hs := h.mono (List.subset_append_left ks [16])
    exact ⟨.of_cpsr_eq hcpsr .., hs.frame, hs.access, hpend, hs.draws⟩
  | true =>
    have hs := h.trans (.setCpsr u (withFlags u.cpsr n z c v))
    exact {
      flags := flags_setFlags_drew hcpsr n z c v used
      frame := ⟨hs.frame.slots, hs.frame.outside.trans (Plain.drew _ used).outside⟩
      access := ⟨hs.access.memory, hs.access.port⟩
      pending := hpend
      draws := congrArg (· + used) hs.draws }

/-! ### MUL and MLA (R271, R272, R395) -/

/-- The free value of C is the next draw, whichever register was written. -/
theorem finishMul_eq (sf : Bool) (rd : Reg) (r : Word) (s : State) : finishMul sf rd r s =
    .next ((s.setReg rd r).drawFlags sf (bit r 31) (r == 0#32) (Config.drawBit s.draws) s.flagV 1) := by
  simp only [finishMul, State.drawFlags, State.setMulFlags, State.setNZC, State.nextBit, State.flagV,
    State.draws_setReg, State.cpsr_setReg, Nat.add_zero]

theorem finishMul_effect {rd : Reg} (hrd : rd ≠ 15) (sf : Bool) (r : Word) (s : State) :
    ∃ t, finishMul sf rd r s = .next t ∧ t.reg rd = r ∧
      Flags sf (bit (t.reg rd) 31) (decide (t.reg rd = 0#32)) (Config.drawBit s.draws) s.flagV s t ∧
      Frame [regSlot s.bank rd, 16] s t ∧ NoAccess s t ∧ t.branchPending = s.branchPending ∧
      t.draws = s.draws + sf.toNat := by
  let t := (s.setReg rd r).drawFlags sf (bit r 31) (r == 0#32) (Config.drawBit s.draws) s.flagV 1
  have hreg : t.reg rd = r := by simp [t]
  have h : DrawEffect _ sf _ _ _ _ 1 s t :=
    drawEffect_drawFlags (.setReg s rd r) (State.cpsr_setReg s rd r) (by simp [hrd]) ..
  refine ⟨t, finishMul_eq sf rd r s, hreg, ?_, h.frame, h.access, h.pending, ?_⟩
  · rw [hreg]; exact h.flags
  · rw [h.draws]; cases sf <;> rfl

theorem lowReg_ne_pc (r : LowReg) : (Fin.ofNat 16 r.val : Reg) ≠ 15 := by revert r; decide

/-- Set-B MUL is MUL with S = 1 on two low registers (R395). -/
theorem exec_bMulAlu_of_ne {rd rs : LowReg} (h : rd ≠ rs) (s : State) :
    exec (.bMulAlu rs rd) s = finishMul true (Fin.ofNat 16 rd.val) (s.low rd * s.low rs) s := by
  show execBMulAlu rs rd s = _
  simp [execBMulAlu, finishMul, State.setMulFlags, h, State.setLow, State.nextBit]

/-- Set-B MUL with Rd = Rs stops (R161). -/
theorem exec_bMulAlu_same (rd : LowReg) (s : State) :
    exec (.bMulAlu rd rd) s = s.unpredictable .multiplyOperands := by
  show execBMulAlu rd rd s = _
  simp [execBMulAlu]

/-- Settles O22: each of the three is `finishMul` on permitted operands. -/
theorem multiplyWord : Obligations.MultiplyWord := by
  intro cond sf rd rn rs rm bd bs s
  refine ⟨fun hc hrd hrm hrs hne => ⟨?_, fun hrn => ?_⟩, fun hne => ?_, ?_⟩
  · rw [exec_mul_of_passed hc, mulViolation_eq, if_neg (by simp [hrd, hrm, hrs, hne]), checked_none]
    exact finishMul_effect hrd ..
  · rw [exec_mla_of_passed hc, mulViolation_eq, if_neg (by simp [hrd, hrm, hrs, hrn, hne]), checked_none]
    exact finishMul_effect hrd ..
  · rw [exec_bMulAlu_of_ne hne]
    exact finishMul_effect (lowReg_ne_pc bd) ..
  · exact exec_bMulAlu_same bd s

/-! ### The long multiplies (R273-R276) -/

/-- The exact number whose 64 low bits a long multiply writes. -/
def exactLong (signed accumulate : Bool) (hi lo rs rm : Reg) (s : State) : Int :=
  (if signed then (s.reg rm).toInt * (s.reg rs).toInt else ((s.reg rm).toNat * (s.reg rs).toNat : Nat)) +
    (if accumulate then ((s.reg hi ++ s.reg lo : BitVec 64).toNat : Int) else 0)

theorem unsignedProduct_eq_ofInt (a b : Word) : unsignedProduct a b = BitVec.ofInt 64 (a.toNat * b.toNat : Nat) := by
  rw [Nat.cast_mul, BitVec.ofInt_mul, BitVec.ofInt_natCast, BitVec.ofInt_natCast, BitVec.ofNat_toNat,
    BitVec.ofNat_toNat, unsignedProduct]

theorem signedProduct_eq_ofInt (a b : Word) : signedProduct a b = BitVec.ofInt 64 (a.toInt * b.toInt) :=
  (BitVec.ofInt_mul ..).symm

theorem accumulator_eq_ofInt (hi lo : Reg) (s : State) :
    s.accumulator hi lo = BitVec.ofInt 64 ((s.reg hi ++ s.reg lo : BitVec 64).toNat : Int) := by
  rw [BitVec.ofInt_natCast, BitVec.ofNat_toNat, BitVec.setWidth_eq, State.accumulator]

theorem longResult_eq_ofInt (signed accumulate : Bool) (hi lo rs rm : Reg) (s : State) :
    longResult signed accumulate hi lo rs rm s = BitVec.ofInt 64 (exactLong signed accumulate hi lo rs rm s) := by
  have hp : (if signed then signedProduct (s.reg rm) (s.reg rs) else unsignedProduct (s.reg rm) (s.reg rs)) =
      BitVec.ofInt 64 (if signed then (s.reg rm).toInt * (s.reg rs).toInt
        else ((s.reg rm).toNat * (s.reg rs).toNat : Nat)) := by
    rw [apply_ite (BitVec.ofInt 64), ← signedProduct_eq_ofInt, ← unsignedProduct_eq_ofInt]
  have ha : BitVec.ofInt 64 (if accumulate then ((s.reg hi ++ s.reg lo : BitVec 64).toNat : Int) else 0) =
      if accumulate then s.accumulator hi lo else 0#64 := by
    rw [apply_ite (BitVec.ofInt 64), ← accumulator_eq_ofInt]; rfl
  rw [exactLong, BitVec.ofInt_add, ← hp, ha, longResult]
  cases accumulate
  · exact (BitVec.add_zero _).symm
  · rfl

theorem toNat_longResult (signed accumulate : Bool) (hi lo rs rm : Reg) (s : State) :
    ((longResult signed accumulate hi lo rs rm s).toNat : Int) =
      exactLong signed accumulate hi lo rs rm s % 2 ^ 64 := by
  rw [longResult_eq_ofInt, BitVec.toNat_ofInt]
  exact Int.toNat_of_nonneg (Int.emod_nonneg _ (by decide))

/-- RdHi : RdLo is the number written to the two halves. -/
theorem halves_append (p : BitVec 64) : field p 32 32 ++ field p 0 32 = p := by
  have h : field p 32 32 ++ field p 0 32 = p.extractLsb' 0 64 :=
    BitVec.extractLsb'_append_extractLsb'_eq_extractLsb' rfl
  rw [h, BitVec.extractLsb'_eq_self]

theorem halves_eq_zero (p : BitVec 64) : field p 32 32 = 0#32 ∧ field p 0 32 = 0#32 ↔ p = 0#64 := by
  constructor
  · rintro ⟨hhi, hlo⟩
    rw [← halves_append p, hhi, hlo]
    rfl
  · rintro rfl
    exact ⟨rfl, rfl⟩

theorem finishMull_eq (sf : Bool) (hi lo : Reg) (p : BitVec 64) (s : State) : finishMull sf hi lo p s =
    .next (((s.setReg lo (field p 0 32)).setReg hi (field p 32 32)).drawFlags sf (bit p 63) (p == 0#64)
      (Config.drawBit s.draws) (Config.drawBit (s.draws + 1)) 2) := by
  simp only [finishMull, State.drawFlags, State.setMullFlags, State.nextBit, State.draws_setReg, Nat.add_zero]

theorem finishMull_effect {hi lo : Reg} (hhi : hi ≠ 15) (hlo : lo ≠ 15) (hne : hi ≠ lo) (sf : Bool) (p : BitVec 64)
    (s : State) : ∃ t, finishMull sf hi lo p s = .next t ∧ t.reg hi ++ t.reg lo = p ∧
      Flags sf (bit (t.reg hi) 31) (decide (t.reg hi = 0#32 ∧ t.reg lo = 0#32)) (Config.drawBit s.draws)
        (Config.drawBit (s.draws + 1)) s t ∧
      Frame [regSlot s.bank hi, regSlot s.bank lo, 16] s t ∧ NoAccess s t ∧ t.branchPending = s.branchPending ∧
      t.draws = s.draws + if sf then 2 else 0 := by
  let t := ((s.setReg lo (field p 0 32)).setReg hi (field p 32 32)).drawFlags sf (bit p 63) (p == 0#64)
    (Config.drawBit s.draws) (Config.drawBit (s.draws + 1)) 2
  have hreghi : t.reg hi = field p 32 32 := by simp [t]
  have hreglo : t.reg lo = field p 0 32 := by simp [t, hne.symm]
  have hn : bit (t.reg hi) 31 = bit p 63 := by rw [hreghi, bit_field p (by decide)]
  have hz : decide (t.reg hi = 0#32 ∧ t.reg lo = 0#32) = (p == 0#64) := by
    rw [hreghi, hreglo, decide_eq_decide.2 (halves_eq_zero p)]; rfl
  have honly : OnlySlots [regSlot s.bank hi, regSlot s.bank lo] s
      ((s.setReg lo (field p 0 32)).setReg hi (field p 32 32)) := by
    have h := (OnlySlots.setReg s lo (field p 0 32)).trans (.setReg _ hi (field p 32 32))
    rw [State.bank_setReg] at h
    exact h.mono (List.Perm.swap ..).subset
  have h : DrawEffect _ sf _ _ _ _ 2 s t := drawEffect_drawFlags honly (by simp) (by simp [hhi, hlo]) ..
  refine ⟨t, finishMull_eq sf hi lo p s, ?_, ?_, h.frame, h.access, h.pending, h.draws⟩
  · rw [hreghi, hreglo, halves_append]
  · rw [hn, hz]
    exact h.flags

/-- Settles O23: all four are `finishMull` of the 64 low bits of the exact number. -/
theorem multiplyLong : Obligations.MultiplyLong := by
  intro cond sf signed accumulate hi lo rs rm s hc hhi hlo hrm hrs hne hhm hlm
  obtain ⟨t, ht, hp, hrest⟩ := finishMull_effect hhi hlo hne sf (longResult signed accumulate hi lo rs rm s) s
  have hexec := exec_longMultiply_of_passed hc signed accumulate sf hi lo rs rm
  rw [mullViolation_eq, if_neg (by simp [hhi, hlo, hrm, hrs, hne, hhm, hlm]), checked_none, ht] at hexec
  refine ⟨t, hexec, ?_, hrest⟩
  rw [hp]
  exact toNat_longResult ..

end Sys2Proof.Machine

/-! PROOFS. The statements about the transfers of Set-A (43_setA_transfers.md): single and halfword transfers, swaps
and block transfers. -/

namespace Sys2Proof.Safety

open Sys2Proof.Machine

/-! ### Frames of port calls -/

namespace Frame

theorem mono {ks ls : List (Fin 37)} {s t : State} (h : Frame ks s t) (hl : ks ⊆ ls) : Frame ls s t :=
  ⟨fun k hk => h.slots k fun hk' => hk (hl hk'), h.outside⟩

theorem trans {ks ls : List (Fin 37)} {s t u : State} (h : Frame ks s t) (g : Frame ls t u) :
    Frame (ks ++ ls) s u where
  slots k hk := by
    rw [List.mem_append, not_or] at hk
    exact (g.slots k hk.2).trans (h.slots k hk.1)
  outside := h.outside.trans g.outside

theorem noteRead (s : State) (k : Width) (a : Word) : Frame [] s (s.noteRead k a) :=
  ⟨fun _ _ => rfl, (Plain.noteRead s k a).outside⟩

theorem store (s : State) (k : Width) (a v : Word) : Frame [] s (s.store k a v) :=
  ⟨fun _ _ => rfl, (Plain.store s k a v).outside⟩

theorem drew (s : State) (n : Nat) : Frame [] s (s.drew n) := ⟨fun _ _ => rfl, (Plain.drew s n).outside⟩

end Frame

/-- A store changes only its access (R84). -/
theorem sameMemoryBut_store (s : State) (k : Width) (a v : Word) : SameMemoryBut k a s (s.store k a v) :=
  fun _ h => Memory.byteAt_write_ne s.mem k a v h

/-! ### The forms of a single transfer (R290, R302) -/

/-- The W bit of the form: the T forms are the post-indexed ones with W = 1 (R290). -/
def Indexing.wbit : Indexing → Bool
  | .pre wb => wb
  | .post => false
  | .user => true

theorem Indexing.writesBack_eq (ix : Indexing) : (!ix.isPre || ix.wbit) = ix.writesBack := by
  cases ix <;> rfl

/-- Rm of a register offset. -/
def Offset.reg? : Offset → Option Reg
  | .imm _ => none
  | .reg _ _ rm => some rm

/-- Rm of a register offset. -/
def HalfOffset.reg? : HalfOffset → Option Reg
  | .imm _ => none
  | .reg rm => some rm

theorem scaled_zero {n : Nat} (imm : BitVec n) : scaled imm 0 = imm.setWidth 32 := BitVec.shiftLeft_zero _

theorem Offset.value_imm (o : BitVec 12) (s : State) : (Offset.imm o).value s = scaled o 0 := (scaled_zero o).symm

theorem HalfOffset.value_imm (o : BitVec 8) (s : State) : (HalfOffset.imm o).value s = scaled o 0 :=
  (scaled_zero o).symm

theorem Offset.notPc_eq (off : Offset) : off.notPc = !(off.reg? == some 15) := by
  cases off with
  | imm o => rfl
  | reg amount sh rm => exact decide_not

theorem HalfOffset.notPc_eq (off : HalfOffset) : off.notPc = !(off.reg? == some 15) := by
  cases off with
  | imm o => rfl
  | reg rm => exact decide_not

/-- Rule R292 permits what its checks let pass. -/
theorem sdtViolation_eq_none (byte : Bool) (ix : Indexing) (rn rd : Reg) (off : Offset) :
    sdtViolation off.reg? byte (!ix.isPre || ix.wbit) rn rd = none ↔ transferPermitted byte ix rn rd off = true := by
  simp only [sdtViolation, firstViolation_eq_none, transferPermitted, ix.writesBack_eq, off.notPc_eq]
  cases byte <;> cases ix.writesBack <;> simp [and_assoc]

/-- Rule R302 permits what its checks let pass. -/
theorem hwViolation_eq_none (pre wb : Bool) (rn rd : Reg) (off : HalfOffset) :
    hwViolation off.reg? pre wb rn rd = none ↔ halfPermitted pre wb rn rd off = true := by
  simp only [hwViolation, firstViolation_eq_none, halfPermitted, off.notPc_eq]
  cases pre <;> cases wb <;> simp [and_assoc]

theorem ne_of_transferPermitted {byte : Bool} {ix : Indexing} {rn rd : Reg} {off : Offset}
    (h : transferPermitted byte ix rn rd off = true) (hw : ix.writesBack = true) : rn ≠ 15 ∧ rn ≠ rd := by
  simp only [transferPermitted, hw, Bool.not_true, Bool.false_or, Bool.and_eq_true, decide_eq_true_eq] at h
  obtain ⟨⟨-, hne⟩, -⟩ := h
  exact hne

theorem ne_of_halfPermitted {pre wb : Bool} {rn rd : Reg} {off : HalfOffset}
    (h : halfPermitted pre wb rn rd off = true) (hw : (!pre || wb) = true) : rn ≠ 15 ∧ rn ≠ rd := by
  have hw' : (pre && !wb) = false := by rw [← Bool.not_inj_iff, Bool.not_and, Bool.not_not]; exact hw
  simp only [halfPermitted, hw', Bool.false_or, Bool.and_eq_true, decide_eq_true_eq] at h
  obtain ⟨-, hne⟩ := h
  exact hne

end Sys2Proof.Safety

namespace Sys2Proof.Machine

open Sys2Proof.Safety

/-- A restriction that is violated stops. -/
theorem checked_of_ne_none {v : Option Reason} (h : v ≠ none) (s : State) (go : Result) :
    ∃ r, checked v s go = s.unpredictable r := by
  obtain ⟨r, rfl⟩ := Option.ne_none_iff_exists'.1 h
  exact ⟨r, rfl⟩

/-! ### Write-back (R290) -/

theorem access_eq (pre up wb : Bool) (base off : Word) : access pre up wb base off =
    ⟨transferAddress pre up base off, offsetAddress up base off, !pre || wb⟩ := rfl

section WriteBack

variable (s : State) (acc : Access) (rn : Reg)

theorem onlySlots_writeBack :
    OnlySlots (if acc.wb then [regSlot s.bank rn] else []) s (s.writeBack acc rn) := by
  unfold State.writeBack
  split
  · exact .setReg s rn acc.final
  · exact .refl s

theorem reg_writeBack (h : acc.wb = true) : (s.writeBack acc rn).reg rn = acc.final := by
  rw [State.writeBack, if_pos h, State.reg_setReg, if_pos rfl]

theorem branchPending_writeBack (h : acc.wb = true → rn ≠ 15) :
    (s.writeBack acc rn).branchPending = s.branchPending := by
  unfold State.writeBack
  split
  · next hw => rw [State.branchPending_setReg, decide_eq_false (h hw), Bool.or_false]
  · rfl

theorem slot_writeBack (j : Fin 37) : (s.writeBack acc rn).slot j =
    if acc.wb = true ∧ j = regSlot s.bank rn then acc.final else s.slot j := by
  unfold State.writeBack
  by_cases hw : acc.wb = true <;> simp [hw]

theorem cpsr_writeBack : (s.writeBack acc rn).cpsr = s.cpsr := by
  rw [State.cpsr, slot_writeBack, if_neg fun h => cpsr_ne_regSlot _ _ h.2]
  rfl

theorem mem_writeBack : (s.writeBack acc rn).mem = s.mem := by
  unfold State.writeBack
  split
  · exact State.mem_setReg ..
  · rfl

theorem bank_writeBack : (s.writeBack acc rn).bank = s.bank := (Plain.writeBack s acc rn).bank

end WriteBack

/-! ### One access (R294-R297, R303-R306) -/

theorem loadSingle_effect {acc : Access} {rn rd : Reg} (h : acc.wb = true → rn ≠ 15 ∧ rn ≠ rd) (k : LoadKind)
    (s : State) : ∃ t, loadSingle k acc rn rd s = .next t ∧
      LoadEffect k acc.addr acc.final acc.wb rn rd s t := by
  let u := s.noteRead k.width acc.addr
  have hbank : (u.writeBack acc rn).bank = s.bank := bank_writeBack u acc rn
  have honly := (onlySlots_writeBack u acc rn).trans (.setReg _ rd (s.load k acc.addr))
  refine ⟨_, rfl, ?_⟩
  exact {
    data := by rw [State.slot_setReg, hbank, if_pos rfl]
    base := fun hw => by
      obtain ⟨-, hne⟩ := h hw
      rw [State.reg_setReg, if_neg hne, reg_writeBack _ _ _ hw]
    frame := ((Frame.noteRead s k.width acc.addr).trans honly.frame).mono <| by
      rw [hbank]
      exact (List.perm_append_singleton ..).subset
    pending := by
      rw [State.branchPending_setReg, branchPending_writeBack _ _ _ fun hw => (h hw).1]
      rfl
    draws := honly.draws
    memory := honly.access.memory
    port := honly.access.port }

theorem storeSingle_effect {acc : Access} {rn : Reg} (h : acc.wb = true → rn ≠ 15) (k : Width) (v : Word)
    (s : State) : ∃ t, storeSingle k acc rn v s = .next t ∧
      StoreEffect k acc.addr v acc.final acc.wb rn s t := by
  have honly := onlySlots_writeBack (s.store k acc.addr v) acc rn
  refine ⟨_, rfl, ?_⟩
  exact {
    data := fun hm i hi => (honly.access.memory _).trans (Memory.byteAt_write k acc.addr v hm hi)
    others := fun a ha => (honly.access.memory a).trans (sameMemoryBut_store s k acc.addr v a ha)
    base := reg_writeBack _ acc rn
    frame := (Frame.store s k acc.addr v).trans honly.frame
    pending := branchPending_writeBack _ acc rn h
    draws := honly.draws
    port := honly.access.port }

/-! ### Word and byte transfers in every form (R290-R301) -/

/-- The twelve loads are one procedure. -/
theorem exec_load (byte : Bool) (ix : Indexing) (cond : Cond) (up : Bool) (rn rd : Reg) (off : Offset) (s : State) :
    exec (load byte ix cond up rn rd off) s =
      sdtLoad (if byte then .byteU else .word) byte cond ix.isPre up ix.wbit rn rd off.reg? (off.value s) s := by
  cases off with
  | imm o => rw [Offset.value_imm]; cases byte <;> cases ix <;> rfl
  | reg amount sh rm => cases byte <;> cases ix <;> rfl

/-- The twelve stores are one procedure. -/
theorem exec_store (byte : Bool) (ix : Indexing) (cond : Cond) (up : Bool) (rn rd : Reg) (off : Offset) (s : State) :
    exec (store byte ix cond up rn rd off) s =
      sdtStore (if byte then .byte else .word) byte cond ix.isPre up ix.wbit rn rd off.reg? (off.value s) s := by
  cases off with
  | imm o => rw [Offset.value_imm]; cases byte <;> cases ix <;> rfl
  | reg amount sh rm => cases byte <;> cases ix <;> rfl

/-- The six loads of A-HW are one procedure. -/
theorem exec_halfLoad (h : HalfLoad) (cond : Cond) (pre up wb : Bool) (rn rd : Reg) (off : HalfOffset) (s : State) :
    exec (halfLoad h cond pre up wb rn rd off) s =
      hwLoad h.kind cond pre up wb rn rd off.reg? (off.value s) s := by
  cases off with
  | imm o => rw [HalfOffset.value_imm]; cases h <;> rfl
  | reg rm => cases h <;> rfl

theorem exec_halfStore (cond : Cond) (pre up wb : Bool) (rn rd : Reg) (off : HalfOffset) (s : State) :
    exec (halfStore cond pre up wb rn rd off) s = hwStore cond pre up wb rn rd off.reg? (off.value s) s := by
  cases off with
  | imm o => rw [HalfOffset.value_imm]; rfl
  | reg rm => rfl

theorem val_eq_pc (r : Reg) : r.val = 15 ↔ r = 15 := (Fin.ext_iff (b := (15 : Reg))).symm

/-- R293: a stored R15 is the instruction's address plus 12. -/
theorem storeReg_eq (s : State) (r : Reg) : s.storeReg r = if r = 15 then s.instrAddr + 12#32 else s.reg r := by
  simp only [State.storeReg, storePcOffset, val_eq_pc]

/-- Settles O25. -/
theorem singleLoads : Obligations.SingleLoads := by
  intro byte ix cond up rn rd off s hc hp
  rw [exec_load, sdtLoad, ifPassed_of_passed hc, (sdtViolation_eq_none ..).2 hp, checked_none, access_eq,
    ix.writesBack_eq]
  exact loadSingle_effect (ne_of_transferPermitted hp) _ s

/-- Settles O26. -/
theorem singleStores : Obligations.SingleStores := by
  intro byte ix cond up rn rd off s hc hp
  rw [exec_store, sdtStore, ifPassed_of_passed hc, (sdtViolation_eq_none ..).2 hp, checked_none, access_eq,
    ix.writesBack_eq, storeReg_eq]
  exact storeSingle_effect (fun hw => (ne_of_transferPermitted hp hw).1) _ _ s

/-- Settles O27. -/
theorem halfTransfers : Obligations.HalfTransfers := by
  intro h cond pre up wb rn rd off s hc hp
  have hv := (hwViolation_eq_none ..).2 hp
  constructor
  · rw [exec_halfLoad, hwLoad, ifPassed_of_passed hc, hv, checked_none, access_eq]
    exact loadSingle_effect (ne_of_halfPermitted hp) _ s
  · rw [exec_halfStore, hwStore, ifPassed_of_passed hc, hv, checked_none, access_eq]
    exact storeSingle_effect (fun hw => (ne_of_halfPermitted hp hw).1) _ _ s

/-- Settles O28: loads and stores of a form share one operand check. -/
theorem transferStops : Obligations.TransferStops := by
  intro byte ix h cond pre up wb rn rd off hoff s hc
  refine ⟨fun hp => ?_, fun hp => ?_⟩
  · have hv := mt (sdtViolation_eq_none byte ix rn rd off).1 (Bool.eq_false_iff.1 hp)
    rw [exec_load, sdtLoad, exec_store, sdtStore, ifPassed_of_passed hc, ifPassed_of_passed hc]
    exact ⟨checked_of_ne_none hv .., checked_of_ne_none hv ..⟩
  · have hv := mt (hwViolation_eq_none pre wb rn rd hoff).1 (Bool.eq_false_iff.1 hp)
    rw [exec_halfLoad, hwLoad, exec_halfStore, hwStore, ifPassed_of_passed hc, ifPassed_of_passed hc]
    exact ⟨checked_of_ne_none hv .., checked_of_ne_none hv ..⟩

/-! ### Swaps (R320, R321) -/

theorem exec_swap (byte : Bool) (cond : Cond) (rn rd rm : Reg) (s : State) :
    exec (if byte then .swpb cond rn rd rm else .swp cond rn rd rm) s =
      swap (if byte then .byteU else .word) cond rn rd rm s := by
  cases byte <;> rfl

theorem swap_of_passed {cond : Cond} {s : State} (hc : s.passed cond = true) (k : LoadKind) (rn rd rm : Reg) :
    swap k cond rn rd rm s =
      if rd = 15 ∨ rm = 15 ∨ rn = 15 ∨ rn = rd ∨ rn = rm then s.unpredictable .swapOperands
      else .next (((s.noteRead k.width (s.reg rn)).store k.width (s.reg rn) (s.reg rm)).setReg rd
        (s.load k (s.reg rn))) := by
  rw [swap, ifPassed_of_passed hc]
  have hv : firstViolation
      [(rd == 15 || rm == 15 || rn == 15, .swapOperands), (rn == rd || rn == rm, .swapOperands)] =
      if rd = 15 ∨ rm = 15 ∨ rn = 15 ∨ rn = rd ∨ rn = rm then some .swapOperands else none := by
    simp only [firstViolation_cons, firstViolation_nil, Bool.or_eq_true, beq_iff_eq, ite_or]
  rw [hv]
  split <;> rfl

/-- A swap with permitted operands: the read, the write, then the register. -/
theorem swap_effect {rd : Reg} (hrd : rd ≠ 15) (k : LoadKind) (addr v : Word) (s : State) :
    let t := ((s.noteRead k.width addr).store k.width addr v).setReg rd (s.load k addr)
    t.reg rd = s.load k addr ∧
      (s.mem.wf = true → ∀ i, i < k.width.bytes → t.mem.byteAt ((k.width.alignDown addr).toNat + i) = byteOf v i) ∧
      SameMemoryBut k.width addr s t ∧
      t.port = .set k.width addr (k.width.lowBits v) :: .get k.width addr :: s.port ∧
      Frame [regSlot s.bank rd] s t ∧ t.branchPending = s.branchPending ∧ t.draws = s.draws := by
  intro t
  let u := (s.noteRead k.width addr).store k.width addr v
  have honly := OnlySlots.setReg u rd (s.load k addr)
  refine ⟨?_, fun hm i hi => (honly.access.memory _).trans (Memory.byteAt_write k.width addr v hm hi),
    fun a ha => (honly.access.memory a).trans (sameMemoryBut_store _ k.width addr v a ha), honly.access.port,
    ((Frame.noteRead s k.width addr).trans (.store _ k.width addr v)).trans honly.frame, ?_, honly.draws⟩
  · rw [State.reg_setReg, if_pos rfl]
  · rw [State.branchPending_setReg, decide_eq_false hrd, Bool.or_false]; rfl

/-- Settles O33. -/
theorem swapWordOrByte : Obligations.Swap := by
  intro byte cond rn rd rm s hc
  rw [exec_swap, swap_of_passed hc]
  refine ⟨fun hrd hrm hrn hne hnm => ?_, fun h => if_pos h⟩
  rw [if_neg (by simp [hrd, hrm, hrn, hne, hnm])]
  refine ⟨_, rfl, ?_⟩
  cases byte <;> exact swap_effect hrd _ _ _ s

end Sys2Proof.Machine

namespace Sys2Proof.Safety

open Sys2Proof.Machine

/-! ### The register list (R310) -/

theorem mem_allRegs (r : Reg) : r ∈ allRegs := by revert r; decide

theorem mem_regsA {rlist : BitVec 16} {r : Reg} : r ∈ regsA rlist ↔ inList rlist r = true := by
  simp only [regsA, List.mem_filter, mem_allRegs, true_and, inList]

theorem pairwise_lt_regsA (rlist : BitVec 16) : (regsA rlist).Pairwise (· < ·) :=
  List.Pairwise.filter _ (by decide)

theorem length_regsA_le (rlist : BitVec 16) : (regsA rlist).length ≤ 16 := List.length_filter_le ..

/-- In an ascending list as many elements lie below one as stand before it. -/
theorem length_filter_lt_getElem {l : List Reg} (hl : l.Pairwise (· < ·)) {i : Nat} (hi : i < l.length) :
    (l.filter fun q => decide (q < l[i])).length = i := by
  induction l generalizing i with
  | nil => exact absurd hi (Nat.not_lt_zero i)
  | cons x xs ih =>
    obtain ⟨hx, hxs⟩ := List.pairwise_cons.1 hl
    cases i with
    | zero => simpa using fun q hq => (hx q hq).le
    | succ k =>
      have hk : k < xs.length := Nat.lt_of_succ_lt_succ hi
      simpa [hx _ (List.getElem_mem hk)] using ih hxs hk

theorem rank_getElem_regsA {rlist : BitVec 16} {i : Nat} (hi : i < (regsA rlist).length) :
    rank rlist (regsA rlist)[i] = i :=
  length_filter_lt_getElem (pairwise_lt_regsA rlist) hi

/-- The rank of a register is its place in the list. -/
theorem getElem?_regsA {rlist : BitVec 16} {i : Nat} {r : Reg} :
    (regsA rlist)[i]? = some r ↔ inList rlist r = true ∧ rank rlist r = i := by
  constructor
  · intro h
    obtain ⟨hi, rfl⟩ := List.getElem?_eq_some_iff.1 h
    exact ⟨mem_regsA.1 (List.getElem_mem hi), rank_getElem_regsA hi⟩
  · rintro ⟨hr, rfl⟩
    obtain ⟨i, hi, rfl⟩ := List.getElem_of_mem (mem_regsA.2 hr)
    rw [rank_getElem_regsA hi, List.getElem?_eq_getElem hi]

theorem mapIdx_map_regsA {α β : Type} (f : Nat → α → β) (g : Reg → α) (rlist : BitVec 16) :
    ((regsA rlist).map g).mapIdx f = (regsA rlist).map fun r => f (rank rlist r) (g r) :=
  List.ext_getElem (by simp) fun i hi _ => by
    simp [rank_getElem_regsA (by simpa using hi : i < (regsA rlist).length)]

theorem mapIdx_regsA {α : Type} (f : Nat → Reg → α) (rlist : BitVec 16) :
    (regsA rlist).mapIdx f = (regsA rlist).map fun r => f (rank rlist r) r := by
  simpa using mapIdx_map_regsA f id rlist

end Sys2Proof.Safety

namespace Sys2Proof.Machine

open Sys2Proof.Safety

/-! ### Words at ascending addresses (R92, R310) -/

theorem add_spanOf_zero (a : Word) : a + spanOf 0 = a := BitVec.add_zero a

theorem add_four_add_spanOf (a : Word) (n : Nat) : a + 4#32 + spanOf n = a + spanOf (n + 1) := by
  rw [BitVec.add_assoc, spanOf, spanOf, Nat.mul_succ, Nat.add_comm, BitVec.ofNat_add]

/-- The words of a transfer do not overlap, aligned or not. -/
theorem word_disjoint (a : Word) {j : Nat} (h0 : 0 < j) (hj : j < 2 ^ 30) :
    (Width.word.alignDown a).toNat + 4 ≤ (Width.word.alignDown (a + spanOf j)).toNat ∨
      (Width.word.alignDown (a + spanOf j)).toNat + 4 ≤ (Width.word.alignDown a).toNat := by
  have ha := a.isLt
  rw [Width.toNat_alignDown, Width.toNat_alignDown, BitVec.toNat_add, spanOf, BitVec.toNat_ofNat]
  show a.toNat / 4 * 4 + 4 ≤ _ / 4 * 4 ∨ _ / 4 * 4 + 4 ≤ a.toNat / 4 * 4
  omega

namespace State

theorem readWords_eq_mapIdx (s : State) (i : Nat) (a : Word) (l : List Reg) :
    s.readWords i a l = l.mapIdx fun j r => (r, s.answer (i + j) .word (a + spanOf j)) := by
  induction l generalizing i a with
  | nil => rfl
  | cons r rest ih =>
    rw [readWords, ih, List.mapIdx_cons, add_spanOf_zero]
    simp only [add_four_add_spanOf, Nat.add_assoc, Nat.add_comm 1, Nat.add_zero]

/-- A block load only makes its port calls. -/
theorem noteReads_eq (s : State) (a : Word) (l : List Reg) :
    s.noteReads a l =
      { s with port := (l.mapIdx fun j _ => PortCall.get .word (a + spanOf j)).reverse ++ s.port } := by
  induction l generalizing s a with
  | nil => rfl
  | cons r rest ih =>
    rw [noteReads, ih, List.mapIdx_cons, add_spanOf_zero]
    simp only [add_four_add_spanOf, noteRead, List.reverse_cons, List.append_assoc, List.singleton_append]

/-- A block store only writes memory and makes its port calls. -/
theorem storeWords_eq (s : State) (a : Word) (vs : List Word) :
    s.storeWords a vs = { s with
      mem := (s.storeWords a vs).mem
      port := (vs.mapIdx fun j v => PortCall.set .word (a + spanOf j) v).reverse ++ s.port } := by
  induction vs generalizing s a with
  | nil => rfl
  | cons v rest ih =>
    rw [storeWords, ih, List.mapIdx_cons, add_spanOf_zero]
    simp only [add_four_add_spanOf, store, Width.lowBits, List.reverse_cons, List.append_assoc, List.singleton_append]

theorem branchPending_storeWords (s : State) (a : Word) (vs : List Word) :
    (s.storeWords a vs).branchPending = s.branchPending := by rw [storeWords_eq]

theorem draws_storeWords (s : State) (a : Word) (vs : List Word) : (s.storeWords a vs).draws = s.draws := by
  rw [storeWords_eq]

/-- A byte outside every word of a block store is as before. -/
theorem byteAt_storeWords_ne (s : State) (a : Word) (vs : List Word) {b : Nat}
    (h : ∀ i, i < vs.length → b < (Width.word.alignDown (a + spanOf i)).toNat ∨
      (Width.word.alignDown (a + spanOf i)).toNat + 4 ≤ b) :
    (s.storeWords a vs).mem.byteAt b = s.mem.byteAt b := by
  induction vs generalizing s a with
  | nil => rfl
  | cons v rest ih =>
    have h0 := h 0 (Nat.succ_pos _)
    rw [add_spanOf_zero] at h0
    rw [storeWords, ih _ _ fun i hi => by rw [add_four_add_spanOf]; exact h (i + 1) (Nat.succ_lt_succ hi)]
    exact Memory.byteAt_write_ne s.mem .word a v h0

/-- Each word of a block store is read back: no later store of the block touches it. -/
theorem read_storeWords {s : State} (hm : s.mem.wf = true) (a : Word) {vs : List Word} (hl : vs.length ≤ 2 ^ 30)
    {i : Nat} (hi : i < vs.length) : (s.storeWords a vs).mem.read .word (a + spanOf i) = vs[i] := by
  induction vs generalizing s a i with
  | nil => exact absurd hi (Nat.not_lt_zero i)
  | cons v rest ih =>
    rw [List.length_cons] at hl hi
    cases i with
    | zero =>
      rw [add_spanOf_zero]
      have hkeep : ((s.store .word a v).storeWords (a + 4#32) rest).mem.read .word a =
          (s.store .word a v).mem.read .word a := by
        refine Memory.read_congr fun k hk => byteAt_storeWords_ne _ _ _ fun j hj => ?_
        rw [add_four_add_spanOf]
        have hd := word_disjoint a (Nat.add_one_pos j) (by omega)
        have hk4 : k < 4 := hk
        omega
      exact hkeep.trans (Memory.read_write_same .word a v hm)
    | succ k =>
      rw [← add_four_add_spanOf]
      exact ih (wf_store .word a v hm) (a + 4#32) (by omega) (by omega)

end State

theorem readWords_regsA (s : State) (start : Word) (rlist : BitVec 16) :
    s.readWords 0 start (regsA rlist) = (regsA rlist).map fun r => (r, wordRead s start rlist r) := by
  rw [State.readWords_eq_mapIdx, mapIdx_regsA]
  simp only [Nat.zero_add, wordRead, wordAddress]

theorem noteReads_regsA (s : State) (start : Word) (rlist : BitVec 16) :
    s.noteReads start (regsA rlist) = { s with port := readCalls start rlist ++ s.port } := by
  rw [State.noteReads_eq, mapIdx_regsA]
  rfl

theorem blockStored_storeWords (s : State) (start : Word) (rlist : BitVec 16) (data : Reg → Word) :
    BlockStored start rlist data s (s.storeWords start ((regsA rlist).map data)) where
  words hm r hr := by
    obtain ⟨i, hi, rfl⟩ := List.getElem_of_mem (mem_regsA.2 hr)
    have hl : ((regsA rlist).map data).length ≤ 2 ^ 30 := by
      have := length_regsA_le rlist
      rw [List.length_map]
      omega
    rw [wordAddress, rank_getElem_regsA hi, State.read_storeWords hm start hl (by simpa using hi), List.getElem_map]
  others b h := State.byteAt_storeWords_ne s start _ fun i hi => by
    rw [List.length_map] at hi
    have := h _ (mem_regsA.1 (List.getElem_mem hi))
    rwa [wordAddress, rank_getElem_regsA hi] at this
  port := by
    rw [State.storeWords_eq, mapIdx_map_regsA]
    rfl

end Sys2Proof.Machine

namespace Sys2Proof.Safety

open Sys2Proof.Machine

/-! ### Frames of block transfers -/

theorem Frame.noteReads (s : State) (a : Word) (l : List Reg) : Frame [] s (s.noteReads a l) where
  slots _ _ := by rw [State.noteReads_eq]; rfl
  outside := (Plain.noteReads s a l).outside

theorem Frame.storeWords (s : State) (a : Word) (vs : List Word) : Frame [] s (s.storeWords a vs) where
  slots _ _ := by rw [State.storeWords_eq]; rfl
  outside := (Plain.storeWords s a vs).outside

theorem BlockStored.congr {start : Word} {rlist : BitVec 16} {data : Reg → Word} {s t u : State}
    (h : BlockStored start rlist data s t) (hm : u.mem = t.mem) (hp : u.port = t.port) :
    BlockStored start rlist data s u where
  words := hm ▸ h.words
  others := hm ▸ h.others
  port := hp.trans h.port

end Sys2Proof.Safety

namespace Sys2Proof.Machine

open Sys2Proof.Safety

/-! ### Writing the registers of a list (R311) -/

/-- The registers of a list, each with its word. -/
def wordsFor (w : Reg → Word) (l : List Reg) : List (Reg × Word) := l.map fun r => (r, w r)

theorem filter_ne_pc_wordsFor (w : Reg → Word) (l : List Reg) :
    (wordsFor w l).filter (fun p => p.1 != 15) = wordsFor w (l.filter (· != 15)) := List.filter_map ..

theorem find?_pc_wordsFor (w : Reg → Word) (l : List Reg) :
    (wordsFor w l).find? (fun p => p.1 == 15) = if 15 ∈ l then some (15, w 15) else none := by
  induction l with
  | nil => rfl
  | cons q rest ih =>
    by_cases hq : q = 15
    · subst hq
      exact (List.find?_cons_of_pos rfl).trans (if_pos List.mem_cons_self).symm
    · exact (List.find?_cons_of_neg (by simpa using hq)).trans (ih.trans (by simp [Ne.symm hq]))

namespace State

/-- Write a register in the bank of a mode; R15 is a branch (R15, R37). -/
def setBankReg (m : Mode) (r : Reg) (v : Word) (s : State) : State :=
  if r.val = 15 then s.writePc v else s.setSlot (regSlot m r) v

/-- Write the registers of a list in the bank of a mode. -/
def setBankRegs (m : Mode) (w : Reg → Word) : List Reg → State → State
  | [], s => s
  | r :: rest, s => setBankRegs m w rest (s.setBankReg m r (w r))

theorem setRegs_wordsFor (w : Reg → Word) (l : List Reg) (s : State) :
    s.setRegs (wordsFor w l) = s.setBankRegs s.bank w l := by
  induction l generalizing s with
  | nil => rfl
  | cons r rest ih => exact (ih (s.setReg r (w r))).trans (by rw [bank_setReg]; rfl)

theorem setUserRegs_wordsFor (w : Reg → Word) (l : List Reg) (s : State) :
    s.setUserRegs (wordsFor w l) = s.setBankRegs .user w l := by
  induction l generalizing s with
  | nil => rfl
  | cons r rest ih => exact ih (s.setUserReg r (w r))

theorem onlySlots_setBankReg (m : Mode) (r : Reg) (v : Word) (s : State) :
    OnlySlots [regSlot m r] s (s.setBankReg m r v) := by
  unfold setBankReg
  split
  · next h =>
    obtain rfl : r = 15 := Fin.ext h
    rw [regSlot_pc]
    exact .writePc s v
  · exact .setSlot s _ v

theorem slot_setBankReg_same (m : Mode) (r : Reg) (v : Word) (s : State) :
    (s.setBankReg m r v).slot (regSlot m r) = v := by
  unfold setBankReg
  split
  · next h =>
    obtain rfl : r = 15 := Fin.ext h
    simp
  · simp

theorem branchPending_setBankReg {r : Reg} (h : r ≠ 15) (m : Mode) (v : Word) (s : State) :
    (s.setBankReg m r v).branchPending = s.branchPending := by
  rw [setBankReg, if_neg (mt (val_eq_pc r).1 h)]
  rfl

section SetBankRegs

variable (m : Mode) (w : Reg → Word)

theorem onlySlots_setBankRegs (l : List Reg) (s : State) :
    OnlySlots (l.map (regSlot m)) s (s.setBankRegs m w l) := by
  induction l generalizing s with
  | nil => exact .refl s
  | cons r rest ih => exact (onlySlots_setBankReg m r (w r) s).trans (ih _)

theorem slot_setBankRegs {l : List Reg} {r : Reg} (h : r ∈ l) (s : State) :
    (s.setBankRegs m w l).slot (regSlot m r) = w r := by
  induction l generalizing s with
  | nil => exact absurd h List.not_mem_nil
  | cons q rest ih =>
    by_cases hr : r ∈ rest
    · exact ih hr _
    · obtain rfl : r = q := (List.mem_cons.1 h).resolve_right hr
      have hout : regSlot m r ∉ rest.map (regSlot m) := by simpa [regSlot_inj] using hr
      exact ((onlySlots_setBankRegs m w rest _).frame.slots _ hout).trans (slot_setBankReg_same m r (w r) s)

theorem branchPending_setBankRegs {l : List Reg} (h : 15 ∉ l) (s : State) :
    (s.setBankRegs m w l).branchPending = s.branchPending := by
  induction l generalizing s with
  | nil => rfl
  | cons r rest ih =>
    obtain ⟨hr, hrest⟩ := not_or.1 (mt List.mem_cons.2 h)
    exact (ih hrest _).trans (branchPending_setBankReg (Ne.symm hr) m (w r) s)

end SetBankRegs

/-- Writing CPSR to itself changes nothing. -/
theorem setCpsr_cpsr (s : State) : s.setCpsr s.cpsr = s := by
  have h : s.slots.set 16 s.slots[16] = s.slots := Vector.set_getElem_self ..
  show { s with slots := s.slots.set 16 s.slots[16] } = s
  rw [h]

end State

/-! ### The base register (R310, R313) -/

/-- Start and final address of a block transfer (R310's table) as an access with write-back. -/
def blockAccess (pre up wb : Bool) (base : Word) (rlist : BitVec 16) : Access :=
  ⟨blockStart pre up base (regsA rlist).length, blockFinal up base (regsA rlist).length, wb⟩

/-- The drawn base is a write-back of the next free value. -/
theorem drawBase_eq (drawn : Bool) (rn : Reg) (s : State) :
    drawBase drawn rn s = (s.writeBack ⟨s.reg rn, s.nextWord, drawn⟩ rn).drew drawn.toNat := by
  cases drawn <;> rfl

/-! ### The restrictions (R314) -/

theorem spsrSlot_isNone_eq_false {s : State} : s.bank.spsrSlot.isNone = false ↔ s.spsr ≠ none := by
  rw [State.spsr, ne_eq, Option.map_eq_none_iff, ← Option.isNone_iff_eq_none, Bool.not_eq_true]

theorem blockViolation_eq_none (s : State) (sbit wb : Bool) (rn : Reg) (rlist : BitVec 16) :
    blockViolation s sbit wb rn rlist = none ↔
      rn ≠ 15 ∧ rlist ≠ 0#16 ∧ (sbit = true → s.spsr ≠ none) ∧
        (sbit = true → inList rlist 15 = false → wb = false) := by
  rw [← spsrSlot_isNone_eq_false, blockViolation, firstViolation_eq_none]
  cases sbit <;> simp [inList]

theorem ne_zero_of_inList {rlist : BitVec 16} {r : Reg} (h : inList rlist r = true) : rlist ≠ 0#16 := by
  rintro rfl
  simp [inList, bit] at h

/-! ### LDM (R311, R313, R314) -/

/-- The state of LDM after its reads and its write-back. -/
def ldmBased (pre up wb : Bool) (rn : Reg) (rlist : BitVec 16) (s : State) : State :=
  (s.noteReads (blockStart pre up (s.reg rn) (regsA rlist).length) (regsA rlist)).writeBack
    (blockAccess pre up wb (s.reg rn) rlist) rn

theorem exec_ldm_of_passed {cond : Cond} {s : State} (hc : s.passed cond = true) (pre up sbit wb : Bool) (rn : Reg)
    (rlist : BitVec 16) : exec (.ldm cond pre up sbit wb rn rlist) s =
      checked (blockViolation s sbit wb rn rlist) s
        (andThen (writeLoaded sbit rlist
            (wordsFor (wordRead s (blockStart pre up (s.reg rn) (regsA rlist).length) rlist) (regsA rlist))
            (ldmBased pre up wb rn rlist s))
          fun t => .next (drawBase (wb && inList rlist rn) rn t)) := by
  rw [wordsFor, ← readWords_regsA]
  exact ifPassed_of_passed hc _

/-- With S = 1 and no R15 in the list the words go to the User bank (R314). -/
theorem writeLoaded_user {rlist : BitVec 16} (h : inList rlist 15 = false) (w : Reg → Word) (l : List Reg)
    (s : State) : writeLoaded true rlist (wordsFor w l) s = .next (s.setBankRegs .user w l) := by
  have hu : (true && !bit rlist 15) = true := congrArg (!·) h
  rw [writeLoaded, if_pos hu, State.setUserRegs_wordsFor]

/-- The registers R0-R14 of a list written in the current bank. -/
def State.setListed (rlist : BitVec 16) (w : Reg → Word) (s : State) : State :=
  s.setBankRegs s.bank w ((regsA rlist).filter (· != 15))

section SetListed

variable (rlist : BitVec 16) (w : Reg → Word) (s : State)

theorem slot_setListed {r : Reg} (hr : inList rlist r = true) (h15 : r ≠ 15) :
    (s.setListed rlist w).slot (regSlot s.bank r) = w r :=
  State.slot_setBankRegs s.bank w (List.mem_filter.2 ⟨mem_regsA.2 hr, by simpa using h15⟩) s

theorem branchPending_setListed : (s.setListed rlist w).branchPending = s.branchPending :=
  State.branchPending_setBankRegs _ _ (by simp) s

theorem onlySlots_setListed : OnlySlots ((regsA rlist).map (regSlot s.bank)) s (s.setListed rlist w) :=
  (State.onlySlots_setBankRegs s.bank w _ s).mono (List.map_subset _ (List.filter_subset_self _))

theorem cpsr_setListed : (s.setListed rlist w).cpsr = s.cpsr :=
  (onlySlots_setListed rlist w s).frame.slots 16 (by simp [regSlot_ne_cpsr])

theorem spsr_setListed : (s.setListed rlist w).spsr = s.spsr := by
  rw [State.setListed, ← State.setRegs_wordsFor]
  exact DoesAll.spsr_of_plain (Plain.setRegs ..)

end SetListed

/-- Without the User bank the words go to the current bank, and R15, where it is in the list, comes last (R311). -/
theorem writeLoaded_current {sbit : Bool} {rlist : BitVec 16} (h : sbit = true → inList rlist 15 = true)
    (w : Reg → Word) (s : State) :
    writeLoaded sbit rlist (wordsFor w (regsA rlist)) s =
      if inList rlist 15 = true then
        andThen (if sbit then copySpsrToCpsr (s.setListed rlist w) else .next (s.setListed rlist w))
          fun u => .next (u.writePc (w 15))
      else .next (s.setListed rlist w) := by
  have hu : ¬(sbit && !bit rlist 15) = true := by
    cases sbit with
    | false => exact Bool.false_ne_true
    | true => simpa [inList] using h rfl
  rw [writeLoaded, if_neg hu]
  simp only [filter_ne_pc_wordsFor, State.setRegs_wordsFor, find?_pc_wordsFor, mem_regsA]
  by_cases hin : inList rlist 15 = true
  · rw [if_pos hin, if_pos hin]; rfl
  · rw [if_neg hin, if_neg hin]; rfl

/-- The word CPSR holds after an LDM into the current bank: the SPSR where S = 1, else as before (R311, R500). -/
abbrev LdmStatus (sbit : Bool) (rlist : BitVec 16) (v : Word) (s : State) : Prop :=
  sbit = false ∧ v = s.cpsr ∨ inList rlist 15 = true ∧ s.spsr = some v ∧ validMode v = true ∧ sbit = true

theorem inList_pc_of_ldmStatus {sbit : Bool} {rlist : BitVec 16} {v : Word} {s : State}
    (hv : LdmStatus sbit rlist v s) (h : sbit = true) : inList rlist 15 = true := by
  rcases hv with ⟨h', -⟩ | ⟨hin, -⟩
  · exact absurd (h.symm.trans h') (by decide)
  · exact hin

theorem spsr_ne_none_of_ldmStatus {sbit : Bool} {rlist : BitVec 16} {v : Word} {s : State}
    (hv : LdmStatus sbit rlist v s) (h : sbit = true) : s.spsr ≠ none := by
  rcases hv with ⟨h', -⟩ | ⟨-, hs, -⟩
  · exact absurd (h.symm.trans h') (by decide)
  · simp [hs]

theorem blockViolation_of_ldmStatus {rn : Reg} {sbit : Bool} {rlist : BitVec 16} {v : Word} {s : State}
    (hrn : rn ≠ 15) (hlist : rlist ≠ 0#16) (hv : LdmStatus sbit rlist v s) (wb : Bool) :
    blockViolation s sbit wb rn rlist = none :=
  (blockViolation_eq_none ..).2
    ⟨hrn, hlist, spsr_ne_none_of_ldmStatus hv, fun h h15 => by simp [inList_pc_of_ldmStatus hv h] at h15⟩

/-- In both forms CPSR is written: with the SPSR, or with what it holds. -/
theorem status_setListed {sbit : Bool} {rlist : BitVec 16} {v : Word} {s : State} (hv : LdmStatus sbit rlist v s)
    (w : Reg → Word) :
    (if sbit then copySpsrToCpsr (s.setListed rlist w) else .next (s.setListed rlist w)) =
      .next ((s.setListed rlist w).setCpsr v) := by
  rcases hv with ⟨rfl, rfl⟩ | ⟨-, hs, hvalid, rfl⟩
  · rw [← cpsr_setListed rlist w s, State.setCpsr_cpsr]; rfl
  · rw [if_pos rfl, copySpsrToCpsr_of_some ((spsr_setListed rlist w s).trans hs), if_pos hvalid]

theorem writeLoaded_effect {sbit : Bool} {rlist : BitVec 16} {v : Word} {s : State} (hv : LdmStatus sbit rlist v s)
    (w : Reg → Word) :
    ∃ t, writeLoaded sbit rlist (wordsFor w (regsA rlist)) s = .next t ∧
      (∀ r, inList rlist r = true → t.slot (regSlot s.bank r) = w r) ∧
      t.cpsr = v ∧ t.branchPending = (s.branchPending || inList rlist 15) ∧
      OnlySlots (16 :: (regsA rlist).map (regSlot s.bank)) s t := by
  have honly := onlySlots_setListed rlist w s
  rw [writeLoaded_current (inList_pc_of_ldmStatus hv), status_setListed hv]
  by_cases hin : inList rlist 15 = true
  · have h15 : (15 : Fin 37) ∈ (regsA rlist).map (regSlot s.bank) :=
      List.mem_map.2 ⟨15, mem_regsA.2 hin, regSlot_pc _⟩
    refine ⟨_, if_pos hin, fun r hr => ?_, by simp, by simp [hin], ?_⟩
    · by_cases h : r = 15
      · subst h; simp
      · simp [regSlot_eq_pc, regSlot_ne_cpsr, h, slot_setListed rlist w s hr h]
    · refine (honly.trans ((OnlySlots.setCpsr _ v).trans (.writePc _ _))).mono ?_
      simp [h15]
  · obtain ⟨rfl, rfl⟩ : sbit = false ∧ v = s.cpsr := hv.resolve_right fun h => hin h.1
    refine ⟨_, if_neg hin, fun r hr => slot_setListed rlist w s hr ?_, cpsr_setListed rlist w s, ?_,
      honly.mono (List.subset_cons_self _ _)⟩
    · rintro rfl
      exact hin hr
    · rw [branchPending_setListed, Bool.eq_false_iff.2 hin, Bool.or_false]

section LdmBased

variable (pre up wb : Bool) (rn : Reg) (rlist : BitVec 16) (s : State)

theorem bank_ldmBased : (ldmBased pre up wb rn rlist s).bank = s.bank :=
  ((Plain.noteReads ..).trans (Plain.writeBack ..)).bank

theorem cpsr_ldmBased : (ldmBased pre up wb rn rlist s).cpsr = s.cpsr := by
  rw [ldmBased, cpsr_writeBack, noteReads_regsA]
  rfl

theorem spsr_ldmBased : (ldmBased pre up wb rn rlist s).spsr = s.spsr :=
  DoesAll.spsr_of_plain ((Plain.noteReads ..).trans (Plain.writeBack ..))

theorem frame_ldmBased : Frame (if wb then [regSlot s.bank rn] else []) s (ldmBased pre up wb rn rlist s) := by
  have h := (onlySlots_writeBack (s.noteReads (blockStart pre up (s.reg rn) (regsA rlist).length) (regsA rlist))
    (blockAccess pre up wb (s.reg rn) rlist) rn).frame
  rw [(Plain.noteReads ..).bank] at h
  exact (Frame.noteReads s _ _).trans h

theorem slot_base_ldmBased (h : wb = true) : (ldmBased pre up wb rn rlist s).slot (regSlot s.bank rn) =
    blockFinal up (s.reg rn) (regsA rlist).length := by
  rw [ldmBased, slot_writeBack, (Plain.noteReads ..).bank, if_pos ⟨h, rfl⟩]
  rfl

theorem branchPending_ldmBased (h : rn ≠ 15) :
    (ldmBased pre up wb rn rlist s).branchPending = s.branchPending := by
  rw [ldmBased, branchPending_writeBack _ _ _ fun _ => h, noteReads_regsA]

theorem mem_ldmBased : (ldmBased pre up wb rn rlist s).mem = s.mem := by
  rw [ldmBased, mem_writeBack, noteReads_regsA]

theorem port_ldmBased : (ldmBased pre up wb rn rlist s).port =
    readCalls (blockStart pre up (s.reg rn) (regsA rlist).length) rlist ++ s.port := by
  rw [ldmBased, (onlySlots_writeBack ..).access.port, noteReads_regsA]

theorem draws_ldmBased : (ldmBased pre up wb rn rlist s).draws = s.draws := by
  rw [ldmBased, (onlySlots_writeBack ..).draws, noteReads_regsA]

end LdmBased

section DrawBase

variable (drawn : Bool) (rn : Reg) (s : State)

theorem bank_drawBase : (drawBase drawn rn s).bank = s.bank := (Plain.drawBase drawn rn s).bank

theorem slot_drawBase (j : Fin 37) : (drawBase drawn rn s).slot j =
    if drawn = true ∧ j = regSlot s.bank rn then s.nextWord else s.slot j := by
  rw [drawBase_eq, State.slot_drew, slot_writeBack]

theorem frame_drawBase : Frame (if drawn then [regSlot s.bank rn] else []) s (drawBase drawn rn s) := by
  rw [drawBase_eq]
  have h := (onlySlots_writeBack s ⟨s.reg rn, s.nextWord, drawn⟩ rn).frame.trans (.drew _ drawn.toNat)
  rwa [List.append_nil] at h

theorem branchPending_drawBase (h : rn ≠ 15) : (drawBase drawn rn s).branchPending = s.branchPending := by
  rw [drawBase_eq]
  exact branchPending_writeBack s _ rn fun _ => h

theorem mem_drawBase : (drawBase drawn rn s).mem = s.mem := by
  rw [drawBase_eq]
  exact mem_writeBack s _ rn

theorem port_drawBase : (drawBase drawn rn s).port = s.port := by
  rw [drawBase_eq]
  exact (onlySlots_writeBack s _ rn).access.port

theorem draws_drawBase : (drawBase drawn rn s).draws = s.draws + drawn.toNat := by
  rw [drawBase_eq]
  exact congrArg (· + drawn.toNat) (onlySlots_writeBack s _ rn).draws

end DrawBase

/-- Settles O29: the reads with the write-back, then the registers of the list with CPSR, then the drawn base. -/
theorem ldmLoadsRegisters : Obligations.LdmLoadsRegisters := by
  rintro cond pre up sbit wb rn rlist v _ _ s hc hrn hlist hv rfl rfl
  let w := wordRead s (blockStart pre up (s.reg rn) (regsA rlist).length) rlist
  let b := ldmBased pre up wb rn rlist s
  let drawn := wb && inList rlist rn
  have hnone : blockViolation s sbit wb rn rlist = none := blockViolation_of_ldmStatus hrn hlist hv wb
  have hvb : LdmStatus sbit rlist v b := by
    rw [LdmStatus, cpsr_ldmBased, spsr_ldmBased]; exact hv
  obtain ⟨u, hu, hdata, hcpsr, hpend, honly⟩ := writeLoaded_effect hvb w
  have hbank : b.bank = s.bank := bank_ldmBased ..
  have hbase : wb = true → b.slot (regSlot s.bank rn) = blockFinal up (s.reg rn) (regsA rlist).length :=
    slot_base_ldmBased pre up wb rn rlist s
  have hframe : Frame (if wb then [regSlot s.bank rn] else []) s b := frame_ldmBased ..
  rw [hbank] at hdata honly
  refine ⟨drawBase drawn rn u, ?_, fun r hr hne => ?_, fun hw hd => ?_, fun hd => ?_, ?_, ?_, ?_, fun a => ?_, ?_, ?_⟩
  · rw [exec_ldm_of_passed hc, hnone, checked_none, hu]; rfl
  · rw [bank_drawBase] at hne
    rw [slot_drawBase, if_neg fun h => hne ⟨h.1, h.2.symm⟩, hdata r hr]
  · have hout : regSlot s.bank rn ∉ 16 :: (regsA rlist).map (regSlot s.bank) := by
      have hin : inList rlist rn = false := by simpa [hw] using hd
      simp [regSlot_ne_cpsr, regSlot_inj, mem_regsA, hin]
    rw [slot_drawBase, if_neg (by simp [drawn, hd]), honly.frame.slots _ hout, hbase hw]
  · rw [bank_drawBase, slot_drawBase, if_pos ⟨hd, rfl⟩, State.nextWord, honly.draws, draws_ldmBased]
  · rw [State.cpsr, slot_drawBase, if_neg fun h => cpsr_ne_regSlot _ _ h.2]
    exact hcpsr
  · rw [branchPending_drawBase _ _ _ hrn, hpend, branchPending_ldmBased _ _ _ _ _ _ hrn]
  · rw [bank_drawBase]
    refine ((hframe.trans honly.frame).trans (frame_drawBase drawn rn u)).mono ?_
    exact (List.perm_append_comm.append_right _).subset
  · rw [mem_drawBase, honly.access.memory, mem_ldmBased]
  · rw [port_drawBase, honly.access.port, port_ldmBased]
  · rw [draws_drawBase, honly.draws, draws_ldmBased]

/-- Settles O30: the reads, then the registers of the User bank. -/
theorem ldmUserBank : Obligations.LdmUserBank := by
  rintro cond pre up rn rlist _ s hc hrn hlist h15 hs rfl
  have hnone : blockViolation s true false rn rlist = none :=
    (blockViolation_eq_none ..).2 ⟨hrn, hlist, fun _ => hs, fun _ _ => rfl⟩
  rw [exec_ldm_of_passed hc, hnone, checked_none, writeLoaded_user h15]
  let u := ldmBased pre up false rn rlist s
  let w := wordRead s (blockStart pre up (s.reg rn) (regsA rlist).length) rlist
  have honly := State.onlySlots_setBankRegs .user w (regsA rlist) u
  have hpend : 15 ∉ regsA rlist := by rw [mem_regsA, h15]; exact Bool.false_ne_true
  refine ⟨_, rfl, fun r hr => State.slot_setBankRegs _ _ (mem_regsA.2 hr) u,
    (frame_ldmBased pre up false rn rlist s).trans honly.frame,
    (State.branchPending_setBankRegs _ _ hpend u).trans (branchPending_ldmBased _ _ _ _ _ _ hrn), fun a => ?_,
    honly.access.port.trans (port_ldmBased ..), honly.draws.trans (draws_ldmBased ..)⟩
  exact (honly.access.memory a).trans (congrArg (·.byteAt a) (mem_ldmBased ..))

/-! ### STM (R312-R314) -/

/-- What STM stores for a register (R293, R312, R313). -/
def stmWord (sbit wb : Bool) (rn : Reg) (rlist : BitVec 16) (s : State) (r : Reg) : Word :=
  if wb = true ∧ r = rn ∧ 0 < rank rlist rn then Config.drawWord s.draws
  else if r = 15 then s.instrAddr + 12#32
  else if sbit then s.userReg r else s.reg r

/-- A register of the list is the lowest when none stands before it. -/
theorem head?_regsA_ne {rlist : BitVec 16} {r : Reg} (hr : inList rlist r = true) :
    ((regsA rlist).head? != some r) = decide (0 < rank rlist r) := by
  have h : (regsA rlist).head? = some r ↔ rank rlist r = 0 := by
    rw [List.head?_eq_getElem?, getElem?_regsA, and_iff_right hr]
  by_cases h0 : rank rlist r = 0
  · simp [h.2 h0, h0]
  · simp [mt h.1 h0, Nat.pos_of_ne_zero h0]

theorem stmData_eq {rlist : BitVec 16} {r : Reg} (hr : inList rlist r = true) (sbit wb : Bool) (rn : Reg) (s : State) :
    stmData sbit wb rn rlist s r = stmWord sbit wb rn rlist s r := by
  have hdraw : (wb && r == rn && (regsA rlist).head? != some r) = true ↔
      wb = true ∧ r = rn ∧ 0 < rank rlist rn := by
    rw [head?_regsA_ne hr]
    simp only [Bool.and_eq_true, beq_iff_eq, decide_eq_true_eq, and_assoc]
    exact and_congr_right fun _ => and_congr_right fun h => by rw [h]
  simp only [stmData, stmWord, hdraw, val_eq_pc, State.nextWord, storePcOffset]

theorem stmDraws_eq (wb : Bool) (rn : Reg) (rlist : BitVec 16) :
    stmDraws wb rn (regsA rlist) = (wb && inList rlist rn && decide (0 < rank rlist rn)).toNat := by
  have hmem : (regsA rlist).contains rn = inList rlist rn := by
    rw [Bool.eq_iff_iff, List.contains_iff_mem, mem_regsA]
  rw [stmDraws, hmem]
  by_cases hin : inList rlist rn = true
  · rw [head?_regsA_ne hin]
    cases (wb && inList rlist rn && decide (0 < rank rlist rn)) <;> rfl
  · simp [hin]

theorem exec_stm_of_passed {cond : Cond} {s : State} (hc : s.passed cond = true) (pre up sbit wb : Bool) (rn : Reg)
    (rlist : BitVec 16) : exec (.stm cond pre up sbit wb rn rlist) s =
      checked (blockViolation s sbit wb rn rlist) s (.next
        (((s.storeWords (blockStart pre up (s.reg rn) (regsA rlist).length)
          ((regsA rlist).map (stmWord sbit wb rn rlist s))).drew
            (wb && inList rlist rn && decide (0 < rank rlist rn)).toNat).writeBack
              (blockAccess pre up wb (s.reg rn) rlist) rn)) := by
  have hmap : (regsA rlist).map (stmData sbit wb rn rlist s) = (regsA rlist).map (stmWord sbit wb rn rlist s) :=
    List.map_congr_left fun r hr => stmData_eq (mem_regsA.1 hr) ..
  rw [← hmap, ← stmDraws_eq]
  exact ifPassed_of_passed hc _

/-- Settles O31: the stores, then the write-back. -/
theorem stmStoresRegisters : Obligations.StmStoresRegisters := by
  rintro cond pre up sbit wb rn rlist _ s hc hrn hlist hsbit rfl
  have hnone : blockViolation s sbit wb rn rlist = none := by
    refine (blockViolation_eq_none ..).2 ⟨hrn, hlist, fun h => (hsbit h).1, fun h h15 => ?_⟩
    exact (hsbit h).2.resolve_right (by simp [h15])
  rw [exec_stm_of_passed hc, hnone, checked_none]
  let u := s.storeWords (blockStart pre up (s.reg rn) (regsA rlist).length)
    ((regsA rlist).map (stmWord sbit wb rn rlist s))
  let d := (wb && inList rlist rn && decide (0 < rank rlist rn)).toNat
  let acc := blockAccess pre up wb (s.reg rn) rlist
  have honly := onlySlots_writeBack (u.drew d) acc rn
  have hbank : (u.drew d).bank = s.bank := (Plain.storeWords ..).bank
  refine ⟨_, rfl, ?_, reg_writeBack (u.drew d) acc rn, ?_, ?_, ?_⟩
  · exact (blockStored_storeWords s _ rlist _).congr (mem_writeBack (u.drew d) acc rn) honly.access.port
  · rw [hbank] at honly
    exact ((Frame.storeWords s _ _).trans (.drew u d)).trans honly.frame
  · exact (branchPending_writeBack (u.drew d) acc rn fun _ => hrn).trans
      (State.branchPending_storeWords ..)
  · exact honly.draws.trans (congrArg (· + d) (State.draws_storeWords ..))

/-! ### Stops (R314) -/

/-- Settles O32: LDM and STM share one operand check, and the SPSR is read after it. -/
theorem blockStops : Obligations.BlockStops := by
  intro cond pre up sbit wb rn rlist s hc
  refine ⟨fun h => ?_, fun v hrn h15 hs hv => ?_⟩
  · have hv : blockViolation s sbit wb rn rlist ≠ none := by
      rw [ne_eq, blockViolation_eq_none]
      rintro ⟨hrn, hlist, hmode, hwb⟩
      rcases h with h | h | ⟨h, hs⟩ | ⟨h, h15, hw⟩
      · exact hrn h
      · exact hlist h
      · exact hmode h hs
      · exact Bool.noConfusion (hw.symm.trans (hwb h h15))
    rw [exec_ldm_of_passed hc, exec_stm_of_passed hc]
    exact ⟨checked_of_ne_none hv .., checked_of_ne_none hv ..⟩
  · have hnone : blockViolation s true wb rn rlist = none :=
      (blockViolation_eq_none ..).2 ⟨hrn, ne_zero_of_inList h15, fun _ => by simp [hs], fun _ => by simp [h15]⟩
    rw [exec_ldm_of_passed hc, hnone, checked_none, writeLoaded_current fun _ => h15, if_pos h15, if_pos rfl,
      copySpsrToCpsr_of_some ((spsr_setListed ..).trans ((spsr_ldmBased ..).trans hs)), hv]
    rfl

end Sys2Proof.Machine

/-! PROOFS. The statements about branches, exceptions and stops (44_setA_branch_system.md). -/

namespace Sys2Proof

/-! ### Offsets and bits as numbers -/

/-- A scaled signed offset is the product of the scale and the signed number. -/
theorem signExtend_shiftLeft_eq_ofInt {n : Nat} (x : BitVec n) (w k : Nat) :
    x.signExtend w <<< k = BitVec.ofInt w (2 ^ k * x.toInt) := by
  have hk : BitVec.twoPow w k = BitVec.ofInt w (2 ^ k) := by
    rw [← Nat.cast_two, ← Nat.cast_pow, BitVec.ofInt_natCast]
    exact BitVec.eq_of_toNat_eq (BitVec.toNat_twoPow w k)
  rw [BitVec.shiftLeft_eq_mul_twoPow, mul_comm, BitVec.ofInt_mul, ← hk]
  rfl

theorem bit_eq_decide {n : Nat} (x : BitVec n) (k : Nat) : bit x k = decide (x.toNat / 2 ^ k % 2 = 1) :=
  Nat.testBit_eq_decide_div_mod_eq

theorem bit_zero_eq_decide {n : Nat} (x : BitVec n) : bit x 0 = decide (x.toNat % 2 = 1) := by
  rw [bit_eq_decide, pow_zero, Nat.div_one]

/-- Bits 1:0 = 10. -/
theorem low_bits_eq_two_iff {n : Nat} (x : BitVec n) : bit x 0 = false ∧ bit x 1 = true ↔ x.toNat % 4 = 2 := by
  rw [bit_zero_eq_decide, bit_eq_decide, decide_eq_false_iff_not, decide_eq_true_eq]
  omega

end Sys2Proof

namespace Sys2Proof.Machine

open Sys2Proof.Safety

/-! ### B and BL (R340, R341) -/

theorem branchTarget_eq {s : State} (ht : s.tbit = false) (offset24 : BitVec 24) :
    s.reg 15 + offsetA offset24 = s.instrAddr + 8#32 + BitVec.ofInt 32 (4 * offset24.toInt) := by
  rw [reg_pc, ht, offsetA, signExtend_shiftLeft_eq_ofInt]
  rfl

theorem reg_writePc_of_ne (s : State) (v : Word) {r : Reg} (h : r ≠ 15) : (s.writePc v).reg r = s.reg r := by
  rw [State.reg, State.bank_writePc, State.slot_writePc, if_neg (mt (regSlot_eq_pc s.bank r).1 h), State.reg]

/-- Settles O34. -/
theorem branchAndLink : Obligations.BranchAndLink := by
  intro cond offset24 s hc ht
  rw [← branchTarget_eq ht]
  constructor
  · have h := OnlySlots.writePc s (s.reg 15 + offsetA offset24)
    exact ⟨_, ifPassed_of_passed hc _, by simp, rfl, h.frame, h.access, h.draws⟩
  · have h := ((OnlySlots.setReg s 14 (s.instrAddr + 4#32)).trans
      (.writePc _ (s.reg 15 + offsetA offset24))).mono (List.Perm.swap ..).subset
    refine ⟨_, ifPassed_of_passed hc _, by simp, rfl, ?_, h.frame, h.access, h.draws⟩
    rw [reg_writePc_of_ne _ _ (by decide), State.reg_setReg, if_pos rfl]

/-! ### BX (R342, R401) -/

theorem exchange_of_misaligned {a : Word} (h : a.toNat % 4 = 2) (s : State) :
    exchange a s = s.unpredictable .bxMisaligned :=
  if_pos ((low_bits_eq_two_iff a).2 h)

theorem exchange_of_aligned {a : Word} (h : a.toNat % 4 ≠ 2) (s : State) :
    exchange a s = .next ((s.setT (bit a 0)).writePc (Width.half.alignDown a)) :=
  if_neg (mt (low_bits_eq_two_iff a).1 h)

theorem tbit_setT (s : State) (b : Bool) : (s.setT b).tbit = b := by
  rw [State.tbit, State.cpsr_setT, bit_withBit _ _ _ _ (by decide), if_pos rfl]

theorem onlySlots_setT_writePc (s : State) (b : Bool) (a : Word) : OnlySlots [15, 16] s ((s.setT b).writePc a) :=
  ((OnlySlots.setCpsr s _).trans (.writePc _ a)).mono (List.Perm.swap 15 16 []).subset

/-- Settles O35: both forms are `exchange`, behind the condition or the check of H1. -/
theorem branchExchange : Obligations.BranchExchange := by
  intro cond rm i s hi
  have hexec : exec i s = exchange (s.reg rm) s := by
    rcases hi with ⟨rfl, hc⟩ | rfl
    · exact ifPassed_of_passed hc _
    · rfl
  refine ⟨fun h => ?_, fun h => ?_, rfl⟩
  · have honly := onlySlots_setT_writePc s (bit (s.reg rm) 0) (Width.half.alignDown (s.reg rm))
    refine ⟨_, hexec.trans (exchange_of_aligned h s), ?_, ?_, rfl, fun k hk => ?_, honly.frame, honly.access,
      honly.draws⟩
    · rw [State.tbit_congr (State.cpsr_writePc ..), tbit_setT, bit_zero_eq_decide]
    · rw [State.slot_writePc, if_pos rfl, Width.toNat_alignDown, Width.bytes]
      omega
    · rw [State.cpsr_writePc, State.cpsr_setT, bit_withBit _ _ _ _ (by decide), if_neg hk]
  · rw [hexec, exchange_of_misaligned h]

/-! ### Taking an exception (R485-R487) -/

/-- `EnterException` for a mode with an SPSR. -/
theorem entered_enterException {m : Mode} {k : Fin 37} (hk : m.spsrSlot = some k) (vector link : Word) (s : State) :
    Entered m vector link s (enterException m vector link s) where
  saved j hj := by
    have h15 : j ≠ 15 := spsrSlot_ne_regSlot hj .user 15
    rw [slot_enterException hj, if_neg h15, if_neg (spsrSlot_ne_cpsr hj), if_neg (spsrSlot_ne_regSlot hj m 14),
      if_pos rfl]
  link := by
    rw [slot_enterException hk, if_neg (mt (regSlot_eq_pc m 14).1 (by decide)), if_neg (regSlot_ne_cpsr m 14),
      if_pos rfl]
  mode := modeBits_enterException m vector link s
  setA := by rw [State.tbit, bit_cpsr_enterException]; rfl
  masked := by rw [State.ibit, bit_cpsr_enterException]; rfl
  kept j _ hj := by
    simp only [List.mem_cons, List.not_mem_nil, or_false, not_or] at hj
    rw [bit_cpsr_enterException, if_neg (by omega), if_neg (by omega), if_neg (by omega)]
  pc := by rw [slot_enterException hk, if_pos rfl]
  slots j h15 h16 h14 hj := by
    have hjk : j ≠ k := fun e => hj (hk.trans (congrArg some e.symm))
    rw [slot_enterException hk, if_neg h15, if_neg h16, if_neg h14, if_neg hjk]
  pending := rfl
  outside := outside_enterException m vector link s
  draws := by simp [enterException]
  access := ⟨fun _ => by rw [mem_enterException], by simp [enterException]⟩

theorem raiseSwi_effect (link : Word) (s : State) :
    ∃ t, raiseSwi link s = .next t ∧ Entered .supervisor 8#32 link s t :=
  ⟨_, rfl, entered_enterException rfl ..⟩

theorem raiseUndefined_effect (link : Word) (s : State) :
    ∃ t, raiseUndefined link s = .next t ∧ Entered .undefined 4#32 link s t :=
  ⟨_, rfl, entered_enterException rfl ..⟩

/-- Settles O36: SWI and the undefined instruction each in both sets, the coprocessor words as undefined ones. -/
theorem traps : Obligations.Traps := by
  intro cond comment hi lo p u n w rn rd crd cp op1 crn crm offset value8 opc op2 half s hc
  refine ⟨?_, fun i hmem => ?_, raiseSwi_effect .., raiseUndefined_effect ..⟩
  · have hexec : exec (.swi cond comment) s = raiseSwi (s.instrAddr + 4#32) s := ifPassed_of_passed hc _
    rw [hexec]
    exact raiseSwi_effect ..
  · have htrap : exec i s = undefinedA cond s := by
      simp only [List.mem_cons, List.not_mem_nil, or_false] at hmem
      rcases hmem with rfl | rfl | rfl | rfl | rfl | rfl <;> rfl
    rw [htrap, undefinedA, ifPassed_of_passed hc]
    exact raiseUndefined_effect ..

/-! ### A tick that executes `decoded` as it stands (R540) -/

namespace State

@[simp] theorem slot_traced (s : State) (k : Fin 37) : s.traced.slot k = s.slot k := by
  unfold traced; split <;> rfl

@[simp] theorem decoded_traced (s : State) : s.traced.decoded = s.decoded := by unfold traced; split <;> rfl

@[simp] theorem tbit_traced (s : State) : s.traced.tbit = s.tbit := tbit_congr (slot_traced s 16)

@[simp] theorem instrAddr_traced (s : State) : s.traced.instrAddr = s.instrAddr := by
  rw [instrAddr, slot_traced, inc_congr (tbit_traced s), instrAddr]

theorem code_setA {s : State} (ht : s.tbit = false) : s.code = .setA s.decoded := by rw [code, ht]; rfl

end State

theorem ready_of_ready {s : State} (h : Ready s) : s.ready = s.traced := by
  rw [State.ready, State.settle, if_neg (by simp [h.settled]), State.interruptCheck, if_neg (by simp [h.quiet])]

theorem step_of_ready {s : State} (h : Ready s) :
    step s = andThen (execute s.traced) fun t => .next t.afterExecute := by
  rw [step, stepOnce, h.running, ← ready_of_ready h]
  rfl

/-- R54, R483: an instruction that stops leaves the state in which it was to execute. -/
theorem stateAtFault_of_ready {s : State} (h : Ready s) {f : Fault} (hf : execute s.traced = .fault f) :
    stateAtFault s = { s.traced with driver := .faulted f } := by
  have hstep : stepOnce s = .fault f := by rw [← step, step_of_ready h, hf]; rfl
  rw [stateAtFault, hstep, h.running, ready_of_ready h]

/-! ### The Unsupported words (R137, R350) -/

/-- The five classes of rule R137. -/
abbrev isUnsupported (w : Word) : Bool :=
  isReservedMultiply w || isReservedSwap w || isReservedHalfwordStore w || isReservedMisc w || isReservedImmMisc w

/-- A word of the five classes stops, whichever of the five constructors it decodes to. -/
theorem exec_decodeA_of_isUnsupported {w : Word} (hw : isUnsupported w = true) (s : State) :
    exec (decodeA w) s = s.unsupported w := by
  simp only [isUnsupported, Bool.or_eq_true] at hw
  rcases hw with (((h | h) | h) | h) | h
  · rw [Laws.decodeA_reservedMultiply w h]; rfl
  · rw [Laws.decodeA_reservedSwap w h]; rfl
  · rw [Laws.decodeA_reservedHalfwordStore w h]; rfl
  · rw [Laws.decodeA_reservedMisc w h]; rfl
  · rw [Laws.decodeA_reservedImmMisc w h]; rfl

theorem execute_of_isUnsupported {s : State} (ht : s.tbit = false) (hw : isUnsupported s.decoded = true) :
    execute s = .fault (.unsupported s.instrAddr s.decoded) := by
  rw [execute, State.code_setA ht]
  exact exec_decodeA_of_isUnsupported hw s

/-- Settles O37: the word stops at Execute, and the tick before it only calls the trace sink. -/
theorem unsupportedStops : Obligations.UnsupportedStops := by
  rintro _ s ht rfl hw
  refine ⟨execute_of_isUnsupported ht hw, rfl, rfl, rfl, rfl, rfl, fun hready => ?_⟩
  have hf : execute s.traced = .fault (.unsupported s.instrAddr s.decoded) := by
    simpa using execute_of_isUnsupported (s := s.traced) (by simpa using ht) (by simpa using hw)
  have hat := stateAtFault_of_ready hready hf
  refine ⟨by rw [step_of_ready hready, hf]; rfl, hat, ?_⟩
  rw [hat]
  rfl

end Sys2Proof.Machine

/-! PROOFS. The statements about the shifts, the ALU operations and the hi-register operations of Set-B
(45_setB_alu.md). -/

namespace Sys2Proof.Machine

open Sys2Proof.Safety

/-! ### Set-B operations as Set-A ones with S = 1 (R220, R370) -/

/-- Writing the result of the Set-A computation and its flags is the Set-A operation with S = 1. -/
theorem dpEffect_setNZCV {op : DpOp} {rd : Reg} (hrd : writesRd op = true → rd ≠ 15) (rn : Reg) (op2 : Shifted)
    (s : State) :
    let out := compute op (firstOperand op rn s) op2 s.flagC s.flagV
    DpEffect op true rd (firstOperand op rn s) op2 s ((writeResult (writesRd op) rd out.result s).setNZCV out) := by
  have hal : s.passed .al = true := rfl
  obtain ⟨t, ht, heffect⟩ := dataProc_effect hal hrd true rn op2
  rw [dataProc_of_passed hal, writeDp_of_ne s hrd, if_pos rfl] at ht
  cases ht
  exact heffect

/-- A comparison writes only the flags. -/
theorem compare_effect {op : DpOp} (hw : writesRd op = false) (rn rd : Reg) (op2 : Shifted) (s : State) :
    DpEffect op true rd (firstOperand op rn s) op2 s
      (s.setNZCV (compute op (firstOperand op rn s) op2 s.flagC s.flagV)) := by
  have h := dpEffect_setNZCV (op := op) (rd := rd) (by simp [hw]) rn op2 s
  rw [hw] at h
  exact h

theorem finishArithB_effect {op : DpOp} (hw : writesRd op = true) (rn : Reg) (rd : LowReg) (op2 : Shifted)
    (s : State) :
    ∃ t, finishArithB rd (compute op (firstOperand op rn s) op2 s.flagC s.flagV) s = .next t ∧
      DpEffect op true (Fin.ofNat 16 rd.val) (firstOperand op rn s) op2 s t := by
  have h := dpEffect_setNZCV (op := op) (fun _ => lowReg_ne_pc rd) rn op2 s
  rw [hw] at h
  exact ⟨_, rfl, h⟩

/-- A result that keeps V is written as any other. -/
theorem finishLogicalB_eq_finishArithB {out : AluOut} {s : State} (hv : out.overflow = s.flagV) (rd : LowReg) :
    finishLogicalB rd out.result out.carry s = finishArithB rd out s := by
  have hset : (s.setLow rd out.result).flagV = s.flagV := by simp [State.flagV]
  rw [finishLogicalB, finishArithB, State.setNZC, State.setNZCV, hset, hv]

theorem finishLogicalB_effect {op : DpOp} {rn : Reg} {op2 : Shifted} {s : State} (hw : writesRd op = true)
    (hv : (compute op (firstOperand op rn s) op2 s.flagC s.flagV).overflow = s.flagV) (rd : LowReg) :
    let out := compute op (firstOperand op rn s) op2 s.flagC s.flagV
    ∃ t, finishLogicalB rd out.result out.carry s = .next t ∧
      DpEffect op true (Fin.ofNat 16 rd.val) (firstOperand op rn s) op2 s t := by
  intro out
  rw [finishLogicalB_eq_finishArithB hv]
  exact finishArithB_effect hw rn rd op2 s

/-! ### The shifts (R371-R373, R384-R386, R389) -/

/-- A shift by a register takes the amount from its bottom byte. -/
theorem shiftRegB_eq (type : ShiftType) (rs rd : LowReg) (s : State) : shiftRegB type rs rd s =
    let out := shift type ((s.low rs).toNat % 256) true (s.low rd) s.flagC
    finishLogicalB rd out.value out.carry s := by
  rw [shiftRegB, toNat_byteOf, pow_zero, Nat.div_one]

/-- Settles O38: a shift of Set-B is MOV with S = 1 and a shifted operand. -/
theorem setBShifts : Obligations.SetBShifts := by
  intro i rs rd offset5 out s hi
  have hexec : exec i s = finishLogicalB rd out.value out.carry s := by
    simp only [List.mem_cons, List.not_mem_nil, or_false, Prod.mk.injEq] at hi
    rcases hi with h | h | h | h | h | h | h <;> obtain ⟨rfl, rfl⟩ := h
    exacts [rfl, rfl, rfl, shiftRegB_eq .., shiftRegB_eq .., shiftRegB_eq .., shiftRegB_eq ..]
  obtain ⟨t, ht, heffect⟩ := finishLogicalB_effect (op := .mov) (rn := 0) (op2 := out) (s := s) rfl rfl rd
  have hresult : t.low rd = out.value := heffect.result rfl
  exact ⟨t, hexec.trans ht, hresult, heffect.flags, heffect.frame, heffect.access, heffect.pending, heffect.draws⟩

/-! ### The flag-setting operations (R374-R383, R387, R388, R390-R394, R396, R397) -/

/-- Settles O39: an operation of Set-B writes a result and C, a result with C and V, or only the flags. -/
theorem setBDataProcessing : Obligations.SetBDataProcessing := by
  intro i op a b rn rs rd imm3 imm8 s hi
  have arith (op) (hw : writesRd op = true) (r : LowReg) (b) :=
    finishArithB_effect hw (Fin.ofNat 16 r.val) rd ⟨b, s.flagC⟩ s
  have logical (op) (hw : writesRd op = true) (r : LowReg) (b)
      (hv : (compute op (firstOperand op (Fin.ofNat 16 r.val) s) ⟨b, s.flagC⟩ _ _).overflow = _) :=
    finishLogicalB_effect hw hv rd
  have compare (op) (hw : writesRd op = false) (r : LowReg) (b) :=
    compare_effect hw (Fin.ofNat 16 r.val) (Fin.ofNat 16 rd.val) ⟨b, s.flagC⟩ s
  rw [← scaled_zero imm3, ← scaled_zero imm8] at hi
  simp only [List.mem_cons, List.not_mem_nil, or_false, Prod.mk.injEq] at hi
  rcases hi with h | h | h | h | h | h | h | h | h | h | h | h | h | h | h | h | h | h | h <;>
    obtain ⟨rfl, rfl, rfl, rfl⟩ := h
  · exact arith .add rfl rs (s.low rn)
  · exact arith .sub rfl rs (s.low rn)
  · exact arith .add rfl rs (scaled imm3 0)
  · exact arith .sub rfl rs (scaled imm3 0)
  · exact arith .add rfl rd (scaled imm8 0)
  · exact arith .sub rfl rd (scaled imm8 0)
  · exact logical .mov rfl rd (scaled imm8 0) rfl
  · exact logical .and rfl rd (s.low rs) rfl
  · exact logical .eor rfl rd (s.low rs) rfl
  · exact arith .adc rfl rd (s.low rs)
  · exact arith .sbc rfl rd (s.low rs)
  · exact arith .rsb rfl rs 0#32
  · exact logical .orr rfl rd (s.low rs) rfl
  · exact logical .bic rfl rd (s.low rs) rfl
  · exact logical .mvn rfl rd (s.low rs) rfl
  · exact ⟨_, rfl, compare .cmp rfl rd (scaled imm8 0)⟩
  · exact ⟨_, rfl, compare .tst rfl rd (s.low rs)⟩
  · exact ⟨_, rfl, compare .cmp rfl rd (s.low rs)⟩
  · exact ⟨_, rfl, compare .cmn rfl rd (s.low rs)⟩

/-! ### The hi-register operations (R161, R398-R400) -/

theorem hiViolation_eq (hd hs : Reg) :
    hiViolation hd hs = if hd < 8 ∧ hs < 8 then some .hiOpLowRegisters else none := by
  simp [hiViolation, Fin.lt_def]

theorem exec_setReg_effect {i : Instr} {r : Reg} {v : Word} {s : State} (hexec : exec i s = .next (s.setReg r v)) :
    ∃ t, exec i s = .next t ∧ t.slot (regSlot s.bank r) = v ∧ Frame [regSlot s.bank r] s t ∧ NoAccess s t ∧
      t.branchPending = (s.branchPending || decide (r = 15)) ∧ t.draws = s.draws := by
  have h := OnlySlots.setReg s r v
  exact ⟨_, hexec, by rw [State.slot_setReg, if_pos rfl], h.frame, h.access, State.branchPending_setReg .., h.draws⟩

/-- Settles O40: behind the one check, two register writes and a comparison. -/
theorem hiRegisters : Obligations.HiRegisters := by
  intro hd hs s
  refine ⟨fun hhi => ?_, fun hhd hhs i hi => ?_⟩
  · have hok : hiViolation hd hs = none := by
      rw [hiViolation_eq, if_neg fun ⟨hd', hs'⟩ => hhi.elim hd'.not_ge hs'.not_ge]
    have hadd : exec (.bAddHi hd hs) s = .next (s.setReg hd (s.reg hd + s.reg hs)) := congrArg (checked · s _) hok
    have hmov : exec (.bMovHi hd hs) s = .next (s.setReg hd (s.reg hs)) := congrArg (checked · s _) hok
    have hcmp : exec (.bCmpHi hd hs) s = .next (s.setNZCV (addWithCarry (s.reg hd) (~~~s.reg hs) true)) :=
      congrArg (checked · s _) hok
    exact ⟨exec_setReg_effect hadd, exec_setReg_effect hmov, _, hcmp,
      compare_effect (op := .cmp) rfl hd hd ⟨s.reg hs, s.flagC⟩ s⟩
  · have hstop : hiViolation hd hs = some .hiOpLowRegisters := by rw [hiViolation_eq, if_pos ⟨hhd, hhs⟩]
    simp only [List.mem_cons, List.not_mem_nil, or_false] at hi
    rcases hi with rfl | rfl | rfl <;> exact congrArg (checked · s _) hstop

end Sys2Proof.Machine

/-! PROOFS. The statements about the transfers and the address arithmetic of Set-B (46_setB_transfers.md). -/

namespace Sys2Proof.Machine

open Sys2Proof.Safety

/-! ### Addresses (R162, R420, R437) -/

/-- A scaled immediate is the product of the scale and the number. -/
theorem scaled_eq_ofNat {n : Nat} (imm : BitVec n) (k : Nat) : scaled imm k = BitVec.ofNat 32 (2 ^ k * imm.toNat) := by
  apply BitVec.eq_of_toNat_eq
  rw [scaled, BitVec.toNat_shiftLeft, BitVec.toNat_setWidth, BitVec.toNat_ofNat, Nat.shiftLeft_eq, Nat.mod_mul_mod,
    Nat.mul_comm]

theorem scaled_bytes {n : Nat} (imm : BitVec n) : scaled imm 0 = BitVec.ofNat 32 imm.toNat :=
  (scaled_zero imm).trans (BitVec.ofNat_toNat ..).symm

theorem scaled_halves {n : Nat} (imm : BitVec n) : scaled imm 1 = BitVec.ofNat 32 (2 * imm.toNat) :=
  scaled_eq_ofNat imm 1

theorem scaled_words {n : Nat} (imm : BitVec n) : scaled imm 2 = BitVec.ofNat 32 (4 * imm.toNat) :=
  scaled_eq_ofNat imm 2

/-- In Set-B the PC base is the instruction's address plus 4, word-aligned. -/
theorem pcBase_of_tbit {s : State} (ht : s.tbit = true) : s.pcBase = (s.instrAddr + 4#32) &&& 0xFFFFFFFC#32 := by
  rw [State.pcBase, reg_pc, if_pos ht]

/-! ### Single transfers (R420-R436) -/

/-- A load of Set-B is a load of Set-A without write-back. -/
theorem loadB_effect (k : LoadKind) (addr : Word) (rd : LowReg) (s : State) :
    ∃ t, loadB k addr rd s = .next t ∧ LoadEffect k addr addr false 0 (Fin.ofNat 16 rd.val) s t :=
  loadSingle_effect (acc := ⟨addr, addr, false⟩) (rn := 0) (rd := Fin.ofNat 16 rd.val)
    (fun h => absurd h Bool.false_ne_true) k s

/-- A store of Set-B is a store of Set-A without write-back. -/
theorem storeB_effect (k : Width) (addr : Word) (rd : LowReg) (s : State) :
    ∃ t, storeB k addr rd s = .next t ∧ StoreEffect k addr (s.low rd) addr false 0 s t :=
  storeSingle_effect (acc := ⟨addr, addr, false⟩) (rn := 0) (fun h => absurd h Bool.false_ne_true) k (s.low rd) s

/-- Settles O41: the ten loads are one procedure, each with its kind and address. -/
theorem setBLoads : Obligations.SetBLoads := by
  intro i k addr ro rb rd offset5 word8 s ht hi
  have hexec : exec i s = loadB k addr rd s := by
    rw [← pcBase_of_tbit ht, ← scaled_bytes offset5, ← scaled_halves offset5, ← scaled_words offset5,
      ← scaled_words word8] at hi
    simp only [List.mem_cons, List.not_mem_nil, or_false, Prod.mk.injEq] at hi
    rcases hi with h | h | h | h | h | h | h | h | h | h <;> obtain ⟨rfl, rfl, rfl⟩ := h <;> rfl
  rw [hexec]
  exact loadB_effect k addr rd s

/-- Settles O42: the seven stores are one procedure, each with its width and address. -/
theorem setBStores : Obligations.SetBStores := by
  intro i k addr ro rb rd offset5 word8 s hi
  have hexec : exec i s = storeB k addr rd s := by
    rw [← scaled_bytes offset5, ← scaled_halves offset5, ← scaled_words offset5, ← scaled_words word8] at hi
    simp only [List.mem_cons, List.not_mem_nil, or_false, Prod.mk.injEq] at hi
    rcases hi with h | h | h | h | h | h | h <;> obtain ⟨rfl, rfl, rfl⟩ := h <;> rfl
  rw [hexec]
  exact storeB_effect k addr rd s

/-! ### Address arithmetic (R437-R440) -/

/-- Settles O43: each is one register write, and none writes R15. -/
theorem addressArithmetic : Obligations.AddressArithmetic := by
  intro i r v rd word8 sword7 s ht hi
  have hexec : exec i s = .next (s.setReg r v) ∧ r ≠ 15 := by
    rw [← pcBase_of_tbit ht, ← scaled_words word8, ← scaled_words sword7] at hi
    simp only [List.mem_cons, List.not_mem_nil, or_false, Prod.mk.injEq] at hi
    rcases hi with h | h | h | h <;> obtain ⟨rfl, rfl, rfl⟩ := h
    exacts [⟨rfl, lowReg_ne_pc rd⟩, ⟨rfl, lowReg_ne_pc rd⟩, ⟨rfl, by decide⟩, ⟨rfl, by decide⟩]
  obtain ⟨hnext, hr⟩ := hexec
  have h := OnlySlots.setReg s r v
  refine ⟨_, hnext, ?_, h.frame, h.access, ?_, h.draws⟩
  · rw [State.reg_setReg, if_pos rfl]
  · rw [State.branchPending_setReg, decide_eq_false hr, Bool.or_false]

end Sys2Proof.Machine

namespace Sys2Proof.Safety

open Sys2Proof.Machine

/-! ### The lists of Set-B as lists of Set-A (R310, R441-R444) -/

theorem mem_regsB {rlist : BitVec 8} {r : Reg} : r ∈ regsB rlist ↔ r < 8 ∧ bit rlist r.val = true := by
  simp [regsB, mem_allRegs, Fin.lt_def]

theorem inList_stackList (rlist : BitVec 8) (extra : Bool) (q r : Reg) :
    inList (stackList rlist extra q.val) r = (bit rlist r.val || (extra && decide (r = q))) := by
  cases extra <;> simp [inList, stackList, bit, Fin.ext_iff, eq_comm]

/-- The ascending list of Set-A with the extra register is the list of Set-B, then that register: both ascend and
hold the same registers. -/
theorem regsA_stackList (rlist : BitVec 8) (extra : Bool) {q : Reg} (hq : 8 ≤ q) :
    regsA (stackList rlist extra q.val) = regsB rlist ++ if extra then [q] else [] := by
  have hasc : (regsB rlist ++ if extra then [q] else []).Pairwise (· < ·) := by
    refine List.pairwise_append.2 ⟨List.Pairwise.filter _ (by decide), by cases extra <;> simp, fun r hr p hp => ?_⟩
    obtain rfl : p = q := by cases extra <;> simp_all
    exact (mem_regsB.1 hr).1.trans_le hq
  refine List.Pairwise.eq_of_mem_iff (pairwise_lt_regsA _) hasc fun r => ?_
  have hlow : bit rlist r.val = true → r < 8 := BitVec.lt_of_getLsbD
  rw [mem_regsA, inList_stackList, List.mem_append, mem_regsB, and_iff_right_of_imp hlow]
  cases extra <;> simp

theorem regsA_setWidth (rlist : BitVec 8) : regsA (rlist.setWidth 16) = regsB rlist := by
  simpa [stackList] using regsA_stackList rlist false (le_refl 8)

theorem inList_setWidth_of_le (rlist : BitVec 8) {r : Reg} (h : 8 ≤ r) : inList (rlist.setWidth 16) r = false := by
  rw [← Bool.not_eq_true, ← mem_regsA, regsA_setWidth, mem_regsB]
  exact fun hr => hr.1.not_ge h

theorem regsA_eq_nil {rlist : BitVec 16} : regsA rlist = [] ↔ rlist = 0#16 := by
  constructor
  · intro h
    refine eq_of_bit fun k hk => ?_
    have hout : (⟨k, hk⟩ : Reg) ∉ regsA rlist := by simp [h]
    simpa [mem_regsA, inList, bit] using hout
  · rintro rfl
    rfl

/-- A register of the list differs from one outside it. -/
theorem ne_of_inList {rlist : BitVec 16} {r q : Reg} (hr : inList rlist r = true) (hq : inList rlist q = false) :
    r ≠ q := by
  rintro rfl
  exact Bool.false_ne_true (hq.symm.trans hr)

/-- A list of PUSH or POP holds none of R8-R15 but its extra register. -/
theorem inList_stackList_of_le (rlist : BitVec 8) (extra : Bool) (q : Reg) {r : Reg} (h : 8 ≤ r) :
    inList (stackList rlist extra q.val) r = (extra && decide (r = q)) := by
  have hbit : bit rlist r.val = false := BitVec.getLsbD_of_ge _ _ h
  rw [inList_stackList, hbit, Bool.false_or]

section StackList

variable (rlist : BitVec 8) (r : Bool)

theorem sp_not_inList_push : inList (stackList rlist r 14) 13 = false :=
  (inList_stackList_of_le rlist r 14 (by decide)).trans (Bool.and_false r)

theorem pc_not_inList_push : inList (stackList rlist r 14) 15 = false :=
  (inList_stackList_of_le rlist r 14 (by decide)).trans (Bool.and_false r)

theorem sp_not_inList_pop : inList (stackList rlist r 15) 13 = false :=
  (inList_stackList_of_le rlist r 15 (by decide)).trans (Bool.and_false r)

theorem inList_pc_pop : inList (stackList rlist r 15) 15 = r :=
  (inList_stackList_of_le rlist r 15 (by decide)).trans (Bool.and_true r)

end StackList

/-- R15 is the last register of a list that holds it. -/
theorem regsA_eq_append_pc (rlist : BitVec 16) :
    regsA rlist = (regsA rlist).filter (· != 15) ++ if inList rlist 15 then [15] else [] := by
  have h : allRegs = allRegs.filter (· != 15) ++ [15] := rfl
  conv_lhs => rw [regsA, h, List.filter_append, List.filter_filter]
  rw [regsA, List.filter_filter, List.filter_singleton]
  simp only [Bool.and_comm, Bool.cond_eq_ite]
  rfl

/-! ### Frames and stored words of a block transfer -/

/-- A CPSR that is as before needs no place in the frame. -/
theorem Frame.of_cpsr_eq {ks : List (Fin 37)} {s t : State} (h : Frame (16 :: ks) s t) (hc : t.cpsr = s.cpsr) :
    Frame ks s t where
  slots k hk := by
    by_cases h16 : k = 16
    · subst h16
      exact hc
    · exact h.slots k (by simp [h16, hk])
  outside := h.outside

theorem BlockStored.congr_data {start : Word} {rlist : BitVec 16} {data data' : Reg → Word} {s t : State}
    (h : BlockStored start rlist data s t) (hd : ∀ r, inList rlist r = true → data r = data' r) :
    BlockStored start rlist data' s t where
  words hm r hr := (h.words hm r hr).trans (hd r hr)
  others := h.others
  port := by
    have hcalls : writeCalls start rlist data = writeCalls start rlist data' :=
      congrArg List.reverse (List.map_congr_left fun r hr => by rw [hd r (mem_regsA.1 hr)])
    rw [← hcalls, h.port]

end Sys2Proof.Safety

namespace Sys2Proof.Machine

open Sys2Proof.Safety

/-! ### Block transfers of Set-B as those of Set-A with write-back (R441-R444) -/

theorem State.setBankRegs_append (m : Mode) (w : Reg → Word) (l l' : List Reg) (s : State) :
    s.setBankRegs m w (l ++ l') = (s.setBankRegs m w l).setBankRegs m w l' := by
  induction l generalizing s with
  | nil => rfl
  | cons r rest ih => exact ih _

/-- With S = 0 the words are written in the order of the list (R311). -/
theorem writeLoaded_in_order (rlist : BitVec 16) (w : Reg → Word) (s : State) :
    writeLoaded false rlist (wordsFor w (regsA rlist)) s = .next (s.setRegs (wordsFor w (regsA rlist))) := by
  rw [writeLoaded_current (by simp), State.setRegs_wordsFor, regsA_eq_append_pc, State.setBankRegs_append]
  cases inList rlist 15 <;> rfl

/-- In the current bank and with a base other than R15 only the empty list is forbidden (R161, R314). -/
theorem blockViolation_current {rn : Reg} (hrn : rn ≠ 15) (s : State) (wb : Bool) (rlist : BitVec 16) :
    blockViolation s false wb rn rlist = emptyViolation (regsA rlist) := by
  have hempty : (rlist == 0#16) = (regsA rlist).isEmpty := by
    rw [Bool.eq_iff_iff, beq_iff_eq, List.isEmpty_iff, regsA_eq_nil]
  simp [blockViolation, emptyViolation, hrn, hempty]

/-- STM with S = 0 and write-back, of a list without R15, is STMIA behind another start and end. -/
theorem exec_stm_current {rn : Reg} (hrn : rn ≠ 15) {rlist : BitVec 16} (h15 : inList rlist 15 = false)
    (pre up : Bool) (s : State) :
    exec (.stm .al pre up false true rn rlist) s =
      checked (emptyViolation (regsA rlist)) s (.next
        (((s.storeWords (blockStart pre up (s.reg rn) (regsA rlist).length)
          ((regsA rlist).map (stmiaData rn (regsA rlist) s))).drew (stmDraws true rn (regsA rlist))).setReg rn
            (blockFinal up (s.reg rn) (regsA rlist).length))) := by
  have hdata : (regsA rlist).map (stmData false true rn rlist s) = (regsA rlist).map (stmiaData rn (regsA rlist) s) := by
    refine List.map_congr_left fun r hr => ?_
    have hr15 : ¬r.val = 15 := mt (val_eq_pc r).1 (ne_of_inList (mem_regsA.1 hr) h15)
    simp only [stmData, stmiaData, if_neg hr15, Bool.true_and]
    rfl
  rw [← blockViolation_current hrn s true, ← hdata]
  rfl

/-- LDM with S = 0 and write-back: the reads, the write-back, the registers in the order of the list, then the drawn
base. -/
theorem exec_ldm_current {rn : Reg} (hrn : rn ≠ 15) (pre up : Bool) (rlist : BitVec 16) (s : State) :
    exec (.ldm .al pre up false true rn rlist) s =
      let start := blockStart pre up (s.reg rn) (regsA rlist).length
      checked (emptyViolation (regsA rlist)) s (.next (drawBase (inList rlist rn) rn
        (((s.noteReads start (regsA rlist)).setReg rn (blockFinal up (s.reg rn) (regsA rlist).length)).setRegs
          (s.readWords 0 start (regsA rlist))))) := by
  have hal : s.passed .al = true := rfl
  rw [exec_ldm_of_passed hal, blockViolation_current hrn, writeLoaded_in_order, wordsFor, ← readWords_regsA]
  rfl

theorem exec_bStmia (rb : LowReg) (rlist : BitVec 8) (s : State) :
    exec (.bStmia rb rlist) s = exec (.stm .al false true false true (Fin.ofNat 16 rb.val) (rlist.setWidth 16)) s := by
  rw [exec_stm_current (lowReg_ne_pc rb) (inList_setWidth_of_le rlist (by decide)), regsA_setWidth]
  rfl

theorem exec_bLdmia (rb : LowReg) (rlist : BitVec 8) (s : State) :
    exec (.bLdmia rb rlist) s = exec (.ldm .al false true false true (Fin.ofNat 16 rb.val) (rlist.setWidth 16)) s := by
  have hin : inList (rlist.setWidth 16) (Fin.ofNat 16 rb.val) = bit rlist rb.val := by
    rw [inList, bit_setWidth rlist (Fin.ofNat 16 rb.val).isLt, Fin.val_ofNat, Nat.mod_eq_of_lt (by omega)]
  rw [exec_ldm_current (lowReg_ne_pc rb), regsA_setWidth, hin]
  rfl

/-- The base of PUSH is never in its list, so every register is stored as it is. -/
theorem exec_bPush (r : Bool) (rlist : BitVec 8) (s : State) :
    exec (.bPush r rlist) s = exec (.stm .al true false false true 13 (stackList rlist r 14)) s := by
  have hdata : (regsA (stackList rlist r 14)).map (stmiaData 13 (regsA (stackList rlist r 14)) s) =
      (regsA (stackList rlist r 14)).map s.reg := by
    refine List.map_congr_left fun q hq => ?_
    have hne : q ≠ 13 := ne_of_inList (mem_regsA.1 hq) (sp_not_inList_push rlist r)
    rw [stmiaData, beq_eq_false_iff_ne.2 hne]
    rfl
  have hregs : regsA (stackList rlist r 14) = pushRegs r rlist := regsA_stackList rlist r (q := 14) (by decide)
  rw [exec_stm_current (by decide) (pc_not_inList_push rlist r), hdata, stmDraws_eq, sp_not_inList_push, hregs]
  rfl

theorem exec_bPop (r : Bool) (rlist : BitVec 8) (s : State) :
    exec (.bPop r rlist) s = exec (.ldm .al false true false true 13 (stackList rlist r 15)) s := by
  have hregs : regsA (stackList rlist r 15) = popRegs r rlist := regsA_stackList rlist r (q := 15) (by decide)
  rw [exec_ldm_current (by decide), sp_not_inList_pop, hregs]
  rfl

/-! ### What block transfers do (R441-R444) -/

theorem stm_current_effect {rn : Reg} (hrn : rn ≠ 15) {rlist : BitVec 16} (hlist : rlist ≠ 0#16)
    (h15 : inList rlist 15 = false) (pre up : Bool) (s : State) :
    ∃ t, exec (.stm .al pre up false true rn rlist) s = .next t ∧
      BlockStored (blockStart pre up (s.reg rn) (regsA rlist).length) rlist
        (fun r => if r = rn ∧ 0 < rank rlist rn then Config.drawWord s.draws else s.reg r) s t ∧
      t.reg rn = blockFinal up (s.reg rn) (regsA rlist).length ∧
      Frame [regSlot s.bank rn] s t ∧ t.branchPending = s.branchPending ∧
      t.draws = s.draws + (inList rlist rn && decide (0 < rank rlist rn)).toNat := by
  obtain ⟨t, ht, hstored, hbase, hframe, hpend, hdraws⟩ :=
    stmStoresRegisters .al pre up false true rn rlist _ s rfl hrn hlist (fun h => absurd h Bool.false_ne_true) rfl
  refine ⟨t, ht, hstored.congr_data fun r hr => ?_, hbase rfl, hframe, hpend, hdraws⟩
  simp [ne_of_inList hr h15]

/-- LDM with S = 0 and write-back from the base up: CPSR stays, so the drawn base goes to the bank it was read from. -/
theorem ldm_current_effect {rn : Reg} (hrn : rn ≠ 15) {rlist : BitVec 16} (hlist : rlist ≠ 0#16) (s : State) :
    ∃ t, exec (.ldm .al false true false true rn rlist) s = .next t ∧ t.bank = s.bank ∧
      (∀ r, inList rlist r = true → r ≠ rn → t.slot (regSlot s.bank r) = wordRead s (s.reg rn) rlist r) ∧
      t.reg rn = (if inList rlist rn then Config.drawWord s.draws else s.reg rn + spanOf (regsA rlist).length) ∧
      Frame (regSlot s.bank rn :: (regsA rlist).map (regSlot s.bank)) s t ∧
      t.branchPending = (s.branchPending || inList rlist 15) ∧
      SameMemory s t ∧ t.port = readCalls (s.reg rn) rlist ++ s.port ∧
      t.draws = s.draws + (inList rlist rn).toNat := by
  obtain ⟨t, ht, hdata, hfinal, hdrawn, hcpsr, hpend, hframe, haccess⟩ :=
    ldmLoadsRegisters .al false true false true rn rlist s.cpsr _ _ s rfl hrn hlist (.inl ⟨rfl, rfl⟩) rfl rfl
  have hbank : t.bank = s.bank := State.bank_congr hcpsr
  rw [hbank] at hdata hdrawn hframe
  refine ⟨t, ht, hbank, fun r hr hne => hdata r hr fun h => hne ?_, ?_,
    (Frame.of_cpsr_eq hframe hcpsr).mono ?_, hpend, haccess⟩
  · exact ((regSlot_inj _ _ _).1 h.2).symm
  · rw [State.reg, hbank]
    cases hin : inList rlist rn with
    | true => exact hdrawn hin
    | false => exact hfinal rfl hin
  · cases inList rlist rn <;> simp

/-- Settles O44: PUSH is STM and POP is LDM with R13 as a base outside the list. -/
theorem pushPop : Obligations.PushPop := by
  rintro r rlist _ _ s rfl rfl
  refine ⟨fun hne => ?_, fun hne => ?_, rfl, rfl⟩
  · have h13 := sp_not_inList_push rlist r
    obtain ⟨t, ht, hstored, hbase, hframe, hpend, hdraws⟩ :=
      stm_current_effect (rn := 13) (by decide) hne (pc_not_inList_push rlist r) true false s
    rw [h13] at hdraws
    exact ⟨t, (exec_bPush ..).trans ht, hstored.congr_data fun q hq => if_neg fun h => ne_of_inList hq h13 h.1, hbase,
      hframe, hpend, hdraws⟩
  · have h13 := sp_not_inList_pop rlist r
    obtain ⟨t, ht, -, hdata, hbase, hframe, hpend, hmem, hport, hdraws⟩ :=
      ldm_current_effect (rn := 13) (by decide) hne s
    rw [h13] at hbase hdraws
    rw [inList_pc_pop] at hpend
    exact ⟨t, (exec_bPop ..).trans ht, fun q hq => hdata q hq (ne_of_inList hq h13), hbase, hframe, hpend, hmem, hport,
      hdraws⟩

/-- Settles O45: STMIA is STM and LDMIA is LDM, of a list without R15. -/
theorem stmiaLdmia : Obligations.StmiaLdmia := by
  rintro rb _ rlist _ s rfl rfl
  have h15 : inList (rlist.setWidth 16) 15 = false := inList_setWidth_of_le rlist (by decide)
  have hlist : rlist ≠ 0#8 → rlist.setWidth 16 ≠ 0#16 := by bv_omega
  refine ⟨fun hne => ?_, fun hne => ?_, rfl, rfl⟩
  · rw [exec_bStmia]
    exact stm_current_effect (lowReg_ne_pc rb) (hlist hne) h15 false true s
  · obtain ⟨t, ht, hbank, hdata, hbase, hframe, hpend, haccess⟩ :=
      ldm_current_effect (lowReg_ne_pc rb) (hlist hne) s
    rw [h15, Bool.or_false] at hpend
    refine ⟨t, (exec_bLdmia ..).trans ht, fun r hr hne' => ?_, hbase, hframe, hpend, haccess⟩
    rw [State.reg, hbank]
    exact hdata r hr hne'

end Sys2Proof.Machine

/-! PROOFS. The statements about the branches of Set-B (47_setB_branch.md). -/

namespace Sys2Proof.Machine

open Sys2Proof.Safety

/-! ### The conditional branches and B (R460, R462) -/

/-- In Set-B a scaled signed offset counts from the instruction's address plus 4. -/
theorem pc_add_offset_of_tbit {s : State} (ht : s.tbit = true) {n : Nat} (offset : BitVec n) (k : Nat) :
    s.reg 15 + offset.signExtend 32 <<< k = s.instrAddr + 4#32 + BitVec.ofInt 32 (2 ^ k * offset.toInt) := by
  rw [reg_pc, if_pos ht, signExtend_shiftLeft_eq_ofInt]

theorem condBranchB_of_passed {cond : Cond} {s : State} (ht : s.tbit = true) (hc : s.passed cond = true)
    (o : BitVec 8) :
    condBranchB cond o s = .next (s.writePc (s.instrAddr + 4#32 + BitVec.ofInt 32 (2 * o.toInt))) := by
  rw [condBranchB, ifPassed_of_passed hc, offsetB8, pc_add_offset_of_tbit ht, pow_one]

theorem exec_bB_of_tbit {s : State} (ht : s.tbit = true) (offset11 : BitVec 11) :
    exec (.bB offset11) s = .next (s.writePc (s.instrAddr + 4#32 + BitVec.ofInt 32 (2 * offset11.toInt))) := by
  have hexec : exec (.bB offset11) s = execBB offset11 s := rfl
  rw [hexec, execBB, offsetB11, pc_add_offset_of_tbit ht, pow_one]

theorem exec_writePc_effect {i : Instr} {v : Word} {s : State} (hexec : exec i s = .next (s.writePc v)) :
    ∃ t, exec i s = .next t ∧ t.slot 15 = v ∧ t.branchPending = true ∧ Frame [15] s t ∧ NoAccess s t ∧
      t.draws = s.draws := by
  have h := OnlySlots.writePc s v
  exact ⟨_, hexec, by rw [State.slot_writePc, if_pos rfl], rfl, h.frame, h.access, h.draws⟩

/-- Settles O46: the fourteen conditional branches are one procedure, each with its condition. -/
theorem setBBranches : Obligations.SetBBranches := by
  intro i cond d o offset11 s ht hi
  apply exec_writePc_effect
  rcases hi with ⟨hi, hc, rfl⟩ | ⟨rfl, rfl⟩
  · have hexec : exec i s = condBranchB cond o s := by
      simp only [List.mem_cons, List.not_mem_nil, or_false, Prod.mk.injEq] at hi
      rcases hi with h | h | h | h | h | h | h | h | h | h | h | h | h | h <;> obtain ⟨rfl, rfl⟩ := h <;> rfl
    exact hexec.trans (condBranchB_of_passed ht hc o)
  · exact exec_bB_of_tbit ht offset11

/-! ### The long branch with link (R466, R467) -/

theorem blPrefix_effect {s : State} (ht : s.tbit = true) (offset11 : BitVec 11) :
    ∃ t, exec (.bBlPrefix offset11) s = .next t ∧
      t.reg 14 = s.instrAddr + 4#32 + BitVec.ofInt 32 (4096 * offset11.toInt) ∧
      Frame [regSlot s.bank 14] s t ∧ NoAccess s t ∧ t.branchPending = s.branchPending ∧ t.draws = s.draws := by
  have h := OnlySlots.setReg s 14 (s.reg 15 + offset11.signExtend 32 <<< 12)
  refine ⟨_, rfl, ?_, h.frame, h.access, ?_, h.draws⟩
  · rw [State.reg_setReg, if_pos rfl]
    exact pc_add_offset_of_tbit ht offset11 12
  · rw [State.branchPending_setReg, decide_eq_false (by decide), Bool.or_false]

/-- The suffix writes R15 first, from the old R14; the link does not touch slot 15. -/
theorem blSuffix_effect (offset11 : BitVec 11) (s : State) :
    ∃ t, exec (.bBlSuffix offset11) s = .next t ∧
      t.slot 15 = s.reg 14 + BitVec.ofNat 32 (2 * offset11.toNat) ∧
      t.reg 14 = (s.instrAddr + 2#32) ||| 1#32 ∧ t.branchPending = true ∧
      Frame [15, regSlot s.bank 14] s t ∧ NoAccess s t ∧ t.draws = s.draws := by
  have h := (OnlySlots.writePc s (s.reg 14 + scaled offset11 1)).trans (.setReg _ 14 ((s.instrAddr + 2#32) ||| 1#32))
  rw [State.bank_writePc] at h
  refine ⟨_, rfl, ?_, ?_, ?_, h.frame, h.access, h.draws⟩
  · have hlink : 15 ≠ regSlot (s.writePc (s.reg 14 + scaled offset11 1)).bank 14 :=
      Ne.symm (mt (regSlot_eq_pc _ 14).1 (by decide))
    rw [State.slot_setReg, if_neg hlink, State.slot_writePc, if_pos rfl, scaled_halves]
  · rw [State.reg_setReg, if_pos rfl]
  · rw [State.branchPending_setReg, State.branchPending_writePc, Bool.true_or]

/-- Settles O47. -/
theorem longBranch : Obligations.LongBranch :=
  fun offset11 s ht => ⟨blPrefix_effect ht offset11, blSuffix_effect offset11 s⟩

end Sys2Proof.Machine

/-! PROOFS. That the decoders read only well-formed instructions, and the words of the spec's examples
(30_encoding.md). -/

namespace Sys2Proof

/-! ### What the decoders read is well-formed (R137, R160) -/

theorem wellFormed_dpImm (op : DpOp) (cond : Cond) (sf : Bool) (rn rd : Reg) (rotate : BitVec 4) (imm8 : BitVec 8) :
    (Instr.dpImm op cond sf rn rd rotate imm8).wellFormed = true := by cases op <;> rfl

theorem wellFormed_dpRegImm (op : DpOp) (cond : Cond) (sf : Bool) (rn rd : Reg) (amount : BitVec 5) (sh : ShiftType)
    (rm : Reg) : (Instr.dpRegImm op cond sf rn rd amount sh rm).wellFormed = true := by cases op <;> rfl

theorem wellFormed_dpRegReg (op : DpOp) (cond : Cond) (sf : Bool) (rn rd rs : Reg) (sh : ShiftType) (rm : Reg) :
    (Instr.dpRegReg op cond sf rn rd rs sh rm).wellFormed = true := by cases op <;> rfl

section
variable {w : Word}

theorem isReservedSwap_of_space (hc : field w 25 3 = 0b000#3) (h7 : bit w 7 = true) (h4 : bit w 4 = true)
    (h5 : field w 5 2 = 0b00#2) (hmul : ¬field w 22 3 = 0b000#3) (hres : ¬field w 22 3 = 0b001#3)
    (hmull : ¬field w 23 2 = 0b01#2) (hswp : ¬(field w 23 2 = 0b10#2 ∧ field w 20 2 = 0b00#2)) :
    isReservedSwap w = true := by
  simp [isReservedSwap, field_eq_two, field_eq_three, field_eq_four, bit_lit] at *
  grind

theorem isReservedMisc_of_space (hc : field w 25 3 = 0b000#3) (h74 : ¬(bit w 7 = true ∧ bit w 4 = true))
    (hm : field w 23 2 = 0b10#2 ∧ bit w 20 = false) (hpsr : ¬field w 4 4 = 0b0000#4)
    (hbx : ¬(field w 4 4 = 0b0001#4 ∧ field w 21 2 = 0b01#2)) : isReservedMisc w = true := by
  simp [isReservedMisc, field_eq_two, field_eq_three, field_eq_four, field_eq_five, bit_lit] at *
  grind

theorem isReservedImmMisc_of_space (hc : field w 25 3 = 0b001#3) (hm : field w 23 2 = 0b10#2 ∧ bit w 20 = false)
    (h21 : ¬bit w 21 = true) : isReservedImmMisc w = true := by
  simp_all [isReservedImmMisc, field_eq_two, field_eq_three, field_eq_five, bit_lit]

theorem wellFormed_decodeMultiplySpace (hc : field w 25 3 = 0b000#3) (h7 : bit w 7 = true) (h4 : bit w 4 = true) :
    (decodeMultiplySpace w).wellFormed = true := by
  simp only [decodeMultiplySpace, apply_ite Instr.wellFormed]
  simp only [Instr.wellFormed, ite_self]
  split_ifs with h5 hmul hres hmull hswp hstore
  · rfl
  · simp_all [isReservedMultiply, field_eq_two, field_eq_three, field_eq_four, field_eq_six, bit_lit]
  · rfl
  · rfl
  · exact isReservedSwap_of_space hc h7 h4 h5 hmul hres hmull hswp
  · simp_all [isReservedHalfwordStore, field_eq_two, field_eq_three, field_eq_four, bit_lit]
  · rfl

theorem wellFormed_decodeMiscSpace (hc : field w 25 3 = 0b000#3) (h74 : ¬(bit w 7 = true ∧ bit w 4 = true))
    (hm : field w 23 2 = 0b10#2 ∧ bit w 20 = false) : (decodeMiscSpace w).wellFormed = true := by
  simp only [decodeMiscSpace, apply_ite Instr.wellFormed]
  simp only [Instr.wellFormed, ite_self]
  split_ifs with hpsr hbx
  · rfl
  · rfl
  · exact isReservedMisc_of_space hc h74 hm hpsr hbx

end

theorem wellFormed_decodeSingleTransfer (w : Word) : (decodeSingleTransfer w).wellFormed = true := by
  simp only [decodeSingleTransfer, apply_ite Instr.wellFormed]
  simp only [Instr.wellFormed, ite_self]

/-- Raw words come from bits 27:25 = 000 and 001 alone. -/
theorem wellFormed_decodeA (w : Word) : (decodeA w).wellFormed = true := by
  unfold decodeA
  dsimp only
  split
  · next hc =>
    split_ifs with h74 hm
    · exact wellFormed_decodeMultiplySpace hc h74.1 h74.2
    · exact wellFormed_decodeMiscSpace hc h74 hm
    · exact wellFormed_dpRegImm ..
    · exact wellFormed_dpRegReg ..
  · split
    · next hc =>
      split_ifs with hm h21
      · rfl
      · exact isReservedImmMisc_of_space hc hm h21
      · exact wellFormed_dpImm ..
    · simp only [apply_ite Instr.wellFormed, wellFormed_decodeSingleTransfer]
      simp only [Instr.wellFormed, ite_self]

/-- The converse of `Laws.undefinedB_cases`: where R140 finds a Set-B word undefined, R160 lists its top byte. -/
theorem isUndefinedB_of_cases {h : Half}
    (hu : (field h 13 3 = 0b101#3 ∧ bit h 12 = true ∧ field h 8 4 ≠ 0b0000#4 ∧ field h 9 2 ≠ 0b10#2) ∨
      (field h 13 3 = 0b110#3 ∧ bit h 12 = true ∧ field h 8 4 = 0b1110#4) ∨
      (field h 13 3 = 0b111#3 ∧ field h 11 2 = 0b01#2)) : isUndefinedB h = true := by
  have key : ∀ t : BitVec 8,
      (field t 5 3 = 0b101#3 ∧ bit t 4 = true ∧ field t 0 4 ≠ 0b0000#4 ∧ field t 1 2 ≠ 0b10#2) ∨
      (field t 5 3 = 0b110#3 ∧ bit t 4 = true ∧ field t 0 4 = 0b1110#4) ∨
      (field t 5 3 = 0b111#3 ∧ field t 3 2 = 0b01#2) →
      (0xB1#8 ≤ t ∧ t ≤ 0xB3#8) ∨ (0xB6#8 ≤ t ∧ t ≤ 0xBB#8) ∨ (0xBE#8 ≤ t ∧ t ≤ 0xBF#8) ∨ t = 0xDE#8 ∨
        (0xE8#8 ≤ t ∧ t ≤ 0xEF#8) := by decide
  have htop := key (field h 8 8) (by simpa [field_field, bit_field] using hu)
  have hdiv : (field h 8 8).toNat = h.toNat / 256 := by
    have := h.isLt
    simp [field, BitVec.extractLsb'_toNat, Nat.shiftRight_eq_div_pow]; omega
  simp only [BitVec.le_def, ← BitVec.toNat_inj, hdiv, BitVec.toNat_ofNat] at htop
  simp [isUndefinedB, BitVec.le_def]
  omega

theorem wellFormed_decodeAluB (op : BitVec 4) (rs rd : LowReg) : (decodeAluB op rs rd).wellFormed = true := by
  unfold decodeAluB; split <;> rfl

theorem wellFormed_decodeCondBranchB (cond : BitVec 4) (soffset8 : BitVec 8) :
    (decodeCondBranchB cond soffset8).wellFormed = true := by
  unfold decodeCondBranchB; split <;> rfl

theorem wellFormed_decodeRegTransferB (h : Half) : (decodeRegTransferB h).wellFormed = true := by
  simp only [decodeRegTransferB, apply_ite Instr.wellFormed]
  simp only [Instr.wellFormed, ite_self]

theorem wellFormed_decodeShiftAddB (h : Half) : (decodeShiftAddB h).wellFormed = true := by
  simp only [decodeShiftAddB, apply_ite Instr.wellFormed]
  simp only [Instr.wellFormed, ite_self]

theorem wellFormed_decodeHiB (h : Half) : (decodeHiB h).wellFormed = true := by
  simp only [decodeHiB, apply_ite Instr.wellFormed]
  simp only [Instr.wellFormed, ite_self]

/-- Three branches find a word undefined; every other one is well-formed whatever its operands. -/
theorem wellFormed_decodeB (h : Half) : (decodeB h).wellFormed = true := by
  simp only [decodeB, apply_ite Instr.wellFormed, wellFormed_decodeAluB, wellFormed_decodeCondBranchB,
    wellFormed_decodeRegTransferB, wellFormed_decodeShiftAddB, wellFormed_decodeHiB]
  simp only [Instr.wellFormed, ite_self]
  split_ifs with h0 h1 h2 h3 h4 h5 h12 h8 h9 h6 h12 hswi hund h11 hund
  any_goals rfl
  · exact isUndefinedB_of_cases (.inl ⟨h5, Bool.eq_true_of_not_eq_false h12, h8, h9⟩)
  · exact isUndefinedB_of_cases (.inr (.inl ⟨h6, Bool.eq_true_of_not_eq_false h12, hund⟩))
  · have h7 : field h 13 3 = 0b111#3 := by
      simpa [h0, h1, h2, h3, h4, h5, h6] using bitVec_three_cases (field h 13 3)
    exact isUndefinedB_of_cases (.inr (.inr ⟨h7, hund⟩))

theorem wellFormed_decode : ∀ c : Code, (decode c).wellFormed = true
  | .setA w => wellFormed_decodeA w
  | .setB h => wellFormed_decodeB h

/-! ### The words of the spec's examples -/

/-- Settles O60: each word is a closed term the decoders evaluate. -/
theorem decodedWords : Obligations.DecodedWords := by
  unfold Obligations.DecodedWords
  decide

end Sys2Proof

/-! PROOFS. The statement about User mode (60_exceptions.md). -/

namespace Sys2Proof.Machine

open Sys2Proof.Safety

/-! ### User mode is confined (R487, R505, R506) -/

theorem regSlot_user_lt (r : Reg) : regSlot .user r < 17 := by revert r; decide

theorem spsr_of_user {s : State} (hu : s.modeBits = Mode.user.bits) : s.spsr = none := by
  rw [State.spsr, bank_of_modeBits hu]; rfl

/-- What User mode may not change: CPSR below the flag byte but for T, and the slots of the privileged modes. -/
structure Confined (s t : State) : Prop where
  control : ∀ k, k < 24 → k ≠ 5 → bit t.cpsr k = bit s.cpsr k
  banked : ∀ k : Fin 37, 17 ≤ k → t.slot k = s.slot k

/-- In User mode both banks an operation may reach are the User bank. -/
theorem Plain.confined {s t : State} (h : Plain s t) (hu : s.modeBits = Mode.user.bits) : Confined s t where
  control k hk _ := h.control k (by omega)
  banked k hk := by
    have h16 : k ≠ 16 := (lt_of_lt_of_le (by decide) hk).ne'
    have hreg (r : Reg) : k ≠ regSlot .user r := ((regSlot_user_lt r).trans_le hk).ne'
    exact h.others k h16 (bank_of_modeBits hu ▸ hreg) hreg

/-- MSR leaves the control bits (R241), BX only changes T; the writers of an SPSR and the returns have no SPSR (R34). -/
theorem Does.confined {i : Instr} {s t : State} (hd : Does i s t) (hu : s.modeBits = Mode.user.bits)
    (hi : isTrap i = false) : Confined s t := by
  have h15 {k : Fin 37} (hk : 17 ≤ k) : k ≠ 15 := (lt_of_lt_of_le (by decide) hk).ne'
  have h16 {k : Fin 37} (hk : 17 ≤ k) : k ≠ 16 := (lt_of_lt_of_le (by decide) hk).ne'
  cases hd with
  | plain h => exact h.confined hu
  | entered _ _ _ htrap _ => simp [hi] at htrap
  | status v _ _ hv =>
    refine ⟨fun k hk _ => ?_, fun k hk => ?_⟩
    · rw [State.cpsr_setCpsr, hv hu k hk]
    · rw [State.slot_setCpsr, if_neg (h16 hk)]
  | saved v old _ ho => simp [spsr_of_user hu] at ho
  | switched b a =>
    refine ⟨fun k _ h5 => ?_, fun k hk => ?_⟩
    · rw [State.cpsr_writePc, State.cpsr_setT, bit_withBit _ _ _ _ (by decide), if_neg h5]
    · rw [State.slot_writePc, if_neg (h15 hk), State.setT, State.slot_setCpsr, if_neg (h16 hk)]
  | returned v a _ hs _ _ => simp [spsr_of_user hu] at hs

/-- Settles O53. -/
theorem userModeConfined : Obligations.UserModeConfined := fun i s t hu hi ht =>
  have h := (exec_does i s t ht).confined hu hi
  ⟨h.control, h.banked⟩

end Sys2Proof.Machine

/-! PROOFS. The statements about reset, the driver's tick and its ends, the interrupt and the halt
(70_reset_and_hazards.md, and 60_exceptions.md for the IRQ). -/

namespace Sys2Proof.Machine

open Sys2Proof.Safety

/-! ### The instruction a tick runs (R540, R541, R515) -/

namespace State

theorem code_setB {s : State} (ht : s.tbit = true) : s.code = .setB (s.decoded.setWidth 16) := by
  rw [code, ht, if_pos rfl, field, BitVec.setWidth_eq_extractLsb' (by decide)]

@[simp] theorem code_traced (s : State) : s.traced.code = s.code := by
  rw [code, tbit_traced, decoded_traced, code]

theorem traced_of_detached {s : State} (h : s.trace = none) : s.traced = s := by rw [traced, h]

theorem traced_of_attached {s : State} {calls : List TraceCall} (h : s.trace = some calls) :
    s.traced = { s with trace := some (⟨s.instrAddr, s.decoded, (decode s.code).mnemonic⟩ :: calls) } := by
  rw [traced, h]

end State

/-- Settles O48. -/
theorem stepRunsDecoded : Obligations.StepRunsDecoded := by
  intro i s hr hi
  obtain rfl : i = decode s.code := by
    rcases hi with ⟨ht, rfl⟩ | ⟨ht, rfl⟩
    · rw [State.code_setA ht]
    · rw [State.code_setB ht]
  refine ⟨wellFormed_decode _, ?_, State.traced_of_detached, fun _ => State.traced_of_attached⟩
  rw [step_of_ready hr, execute, State.code_traced]

/-! ### The refill (R544) -/

namespace State

/-- The two fetches of a refill, from the target aligned for the active set. -/
theorem refill_fetches (s : State) {a : Word} (ha : a = s.slot 15 &&& ~~~(s.inc - 1#32)) :
    s.refill.decoded = s.answer 0 s.fetchWidth a ∧ s.refill.prefetched = s.answer 1 s.fetchWidth (a + s.inc) ∧
      s.refill.slot 15 = a + 2#32 * s.inc ∧
      s.refill.port = .get s.fetchWidth (a + s.inc) :: .get s.fetchWidth a :: s.port := by
  subst ha
  exact ⟨rfl, rfl, (slot_refill s 15).trans (if_pos rfl), rfl⟩

theorem refill_fetches_setA {s : State} (ht : s.tbit = false) {a : Word} (ha : a = s.slot 15 &&& 0xFFFFFFFC#32) :
    s.refill.decoded = s.answer 0 .word a ∧ s.refill.prefetched = s.answer 1 .word (a + 4#32) ∧
      s.refill.slot 15 = a + 8#32 ∧ s.refill.port = .get .word (a + 4#32) :: .get .word a :: s.port := by
  have hinc : s.inc = 4#32 := by rw [inc, ht]; rfl
  have hwidth : s.fetchWidth = .word := by rw [fetchWidth, ht]; rfl
  have h := s.refill_fetches (a := a) (by rw [hinc]; exact ha)
  rwa [hinc, hwidth] at h

theorem slotsSameBut_refill (s : State) : SlotsSameBut [15] s s.refill := fun k hk => by
  rw [slot_refill, if_neg (by simpa using hk)]

theorem slotsSameBut_advance (s : State) : SlotsSameBut [15] s s.advance := fun k hk => by
  rw [slot_advance, if_neg (by simpa using hk)]

/-- What the port answers depends on memory, its regions and the calls made before (R85). -/
theorem answer_congr {s t : State} (hm : t.mem = s.mem) (hr : t.regions = s.regions) (hp : t.port = s.port) (i : Nat)
    (k : Width) (a : Word) : t.answer i k a = s.answer i k a := by
  unfold answer isExternal
  rw [hm, hr, hp]

end State

/-! ### A change of the set (R41, R542) -/

theorem Plain.pending {s t : State} (h : Plain s t) (hs : s.branchPending = true) : t.branchPending = true :=
  Bool.of_not_eq_false fun ht => by simp [(h.pc ht).1] at hs

/-- An instruction that does not leave a branch pending keeps T. -/
theorem Does.tbit_or_pending {i : Instr} {s t : State} (hd : Does i s t) :
    t.tbit = s.tbit ∨ t.branchPending = true := by
  cases hd with
  | plain h => exact .inl h.tbit
  | entered _ _ _ _ _ => exact .inr rfl
  | status v ht _ _ => exact .inl (by rw [State.tbit, State.cpsr_setCpsr, ht])
  | saved v _ _ _ => exact .inl (State.tbit_congr (State.cpsr_setSpsr ..))
  | switched b a => exact .inr rfl
  | returned v a _ _ _ ht => exact .inr (ht.pending rfl)

/-- Settles O52. -/
theorem setChangesWithRefill : Obligations.SetChangesWithRefill := fun i s t ht hne =>
  (exec_does i s t ht).tbit_or_pending.resolve_left hne

/-! ### The end of a tick (R540 steps 3 to 6, R544, R545) -/

namespace State

theorem afterExecute_of_halt {s : State} (h : s.haltFlag = true) : s.afterExecute = { s with driver := .halted } :=
  if_pos h

theorem afterExecute_of_no_halt {s : State} (h : s.haltFlag = false) : s.afterExecute = s.endTick :=
  if_neg (by simp [h])

theorem endTick_of_pending {s : State} (h : s.branchPending = true) :
    s.endTick = { s.refill with driver := if s.stopRequest then .stopped else .running } := by
  rw [endTick, if_pos h]

theorem endTick_of_settled {s : State} (h : s.branchPending = false) :
    s.endTick = { s.advance with driver := if s.stopRequest then .stopped else .running } := by
  rw [endTick, if_neg (by simp [h])]

/-- Whichever way a tick ends, the pipeline is settled and of the registers only R15 has moved. -/
theorem endTick_effect (s : State) :
    s.endTick.driver = (if s.stopRequest then .stopped else .running) ∧ s.endTick.branchPending = false ∧
      SlotsSameBut [15] s s.endTick ∧ s.endTick.mem = s.mem ∧ s.endTick.draws = s.draws ∧
      s.endTick.irqLine = s.irqLine ∧ s.endTick.regions = s.regions := by
  cases h : s.branchPending with
  | true =>
    rw [endTick_of_pending h]
    exact ⟨rfl, rfl, slotsSameBut_refill s, rfl, rfl, rfl, rfl⟩
  | false =>
    rw [endTick_of_settled h]
    exact ⟨rfl, h, slotsSameBut_advance s, rfl, rfl, rfl, rfl⟩

end State

/-- Settles O49. -/
theorem endOfTick : Obligations.EndOfTick := by
  rintro t _ a rfl ha
  refine ⟨State.afterExecute_of_halt, fun hh => ?_, fun hh hp => ?_, fun hh hp => ?_⟩ <;>
    rw [State.afterExecute_of_no_halt hh]
  · exact t.endTick_effect
  · rw [State.endTick_of_pending hp]
    exact t.refill_fetches ha
  · rw [State.endTick_of_settled hp]
    exact ⟨rfl, rfl, (State.slot_advance t 15).trans (if_pos rfl), rfl⟩

/-! ### The interrupt at the start of a tick (R488, R490) -/

theorem ready_of_irq {s : State} (hb : s.branchPending = false) (hl : s.irqLine = true) (hi : s.ibit = false) :
    s.ready = (enterIrq s).refill.traced := by
  have ht : s.takesIrq = true := by rw [State.takesIrq, hl, hi]; rfl
  rw [State.ready, State.settle, if_neg (by simp [hb]), State.interruptCheck, if_pos ht]

theorem step_of_running {s : State} (h : s.driver = .running) :
    step s = andThen (execute s.ready) fun t => .next t.afterExecute := by
  rw [step, stepOnce, h]; rfl

/-- Settles O50: the entry of R485 at 0x18, its refill, and the tick of the state that leaves. -/
theorem irqEntry : Obligations.IrqEntry := by
  intro s hd hb hl hi
  have he : Entered .irq 0x18#32 (s.instrAddr + 4#32) s (enterIrq s) := entered_enterException rfl ..
  have hmem : (enterIrq s).mem = s.mem := mem_enterException ..
  have hport : (enterIrq s).port = s.port := he.access.port
  obtain ⟨hdecoded, hprefetched, hpc, hcalls⟩ :=
    State.refill_fetches_setA he.setA (a := 0x18#32) (by rw [he.pc]; rfl)
  rw [State.answer_congr hmem he.outside.regions hport] at hdecoded hprefetched
  rw [hport] at hcalls
  refine ⟨_, (enterIrq s).refill, he, hdecoded, hprefetched, hpc, rfl, State.slotsSameBut_refill _, hmem, hcalls,
    he.outside.irqLine.trans hl, ?_⟩
  have hcode : (enterIrq s).refill.code = .setA (enterIrq s).refill.decoded :=
    State.code_setA ((State.tbit_congr (State.cpsr_refill _)).trans he.setA)
  rw [step_of_running hd, ready_of_irq hb hl hi, execute, State.code_traced, hcode]

/-! ### start() (R55, R530) -/

namespace HostPort

/-- The state start() refills: the registers of the reset, R15 at the entry address. -/
def startRegs (p : Config.StartParams) (s : State) : State :=
  let zeroed : State := { s with slots := (Vector.replicate 37 0#32).set 15 (s.slot 15), stopRequest := false }
  ((((zeroed.setSlot 25 p.spSvc).setSlot 31 p.spIrq).setSlot 13 p.spUsr).setCpsr 0x0000001F#32).setSlot 15 p.entry

theorem start_of_stopped (p : Config.StartParams) {s : State} (h : s.driver = .stopped) :
    start p s = some { (startRegs p s).refill with driver := .running } := by
  rw [start, h]; rfl

theorem start_of_not_stopped (p : Config.StartParams) {s : State} (h : s.driver ≠ .stopped) : start p s = none := by
  unfold start
  split
  · next hs => exact absurd hs h
  · rfl

theorem slot_startRegs (p : Config.StartParams) (s : State) (k : Fin 37) :
    (startRegs p s).slot k =
      if k = 15 then p.entry else if k = 16 then 0x0000001F#32 else if k = 13 then p.spUsr
      else if k = 31 then p.spIrq else if k = 25 then p.spSvc else 0#32 := by
  by_cases h : k = 15
  · simp [startRegs, h]
  · have hk : ¬15 = k.val := fun e => h (Fin.ext e.symm)
    simp only [startRegs, State.slot_setSlot, State.slot_setCpsr, h, if_false]
    simp [State.slot, hk]

end HostPort

/-- Settles O1. -/
theorem startResets : Obligations.StartResets := by
  refine fun p s => ⟨HostPort.start_of_not_stopped p, fun h => ⟨_, HostPort.start_of_stopped p h, ?_⟩⟩
  have hslot := HostPort.slot_startRegs p s
  have hcpsr : (HostPort.startRegs p s).cpsr = 0x0000001F#32 := (hslot 16).trans rfl
  have ht : (HostPort.startRegs p s).tbit = false := by rw [State.tbit, hcpsr]; rfl
  obtain ⟨hdecoded, hprefetched, hpc, hcalls⟩ :=
    State.refill_fetches_setA ht (a := p.entry &&& 0xFFFFFFFC#32) (by rw [hslot, if_pos rfl])
  have hkept (k : Fin 37) (hk : k ≠ 15) := (State.slotsSameBut_refill _ k (by simpa using hk)).trans (hslot k)
  refine ⟨(State.cpsr_refill _).trans hcpsr, hkept 25 (by decide), hkept 31 (by decide), hkept 13 (by decide),
    fun k hk => ?_, hpc, hdecoded, hprefetched, hcalls, rfl, rfl, rfl, rfl, rfl, rfl, rfl, rfl⟩
  simp only [List.mem_cons, List.not_mem_nil, or_false, not_or] at hk
  obtain ⟨h13, h15, h16, h25, h31⟩ := hk
  exact (hkept k h15).trans (by rw [if_neg h15, if_neg h16, if_neg h13, if_neg h31, if_neg h25])

/-! ### Halted, stopped and faulted cores (R547, R548, R550) -/

theorem haltEnds_iff (s : State) : s.haltEnds = true ↔
    s.stopRequest = true ∨ s.haltFlag = false ∨ (s.haltTask = true ∧ Config.haltAnswer s.draws = true) := by
  simp [State.haltEnds, or_assoc]

/-- A poll uses at most a free value. -/
theorem poll_draws (s : State) : ∃ n, (if s.pollsTask then s.drew 1 else s) = { s with draws := n } := by
  cases h : s.pollsTask
  · exact ⟨s.draws, rfl⟩
  · exact ⟨s.draws + 1, rfl⟩

theorem poll_of_ends {s : State} (h : s.haltEnds = true) :
    ∃ n, s.poll = { s with draws := n, haltFlag := false, driver := .running : State }.endTick := by
  obtain ⟨n, hn⟩ := poll_draws s
  exact ⟨n, by rw [State.poll, hn, if_pos h]⟩

theorem poll_of_waits {s : State} (h : ¬s.haltEnds = true) : ∃ n, s.poll = { s with draws := n } := by
  obtain ⟨n, hn⟩ := poll_draws s
  exact ⟨n, by rw [State.poll, hn, if_neg h]⟩

theorem step_of_halted {s : State} (h : s.driver = .halted) : step s = .next s.poll := by rw [step, stepOnce, h]

theorem step_of_stopped {s : State} (h : s.driver = .stopped) : step s = .next s := by rw [step, stepOnce, h]

theorem step_of_faulted {s : State} {record : Fault} (h : s.driver = .faulted record) : step s = .fault record := by
  rw [step, stepOnce, h]

/-- Settles O51. -/
theorem haltAndStop : Obligations.HaltAndStop := by
  refine fun s => ⟨fun hd => ⟨fun hends => ?_, fun hstop hflag htask => ?_⟩, step_of_stopped,
    fun _ => step_of_faulted, fun _ => ⟨step_of_faulted rfl, rfl⟩⟩
  · obtain ⟨n, hn⟩ := poll_of_ends ((haltEnds_iff s).2 hends)
    exact ⟨_, (step_of_halted hd).trans (congrArg _ hn), rfl, rfl, rfl, rfl, rfl, rfl, rfl, rfl⟩
  · have hwaits : ¬s.haltEnds = true := by simp [haltEnds_iff, hstop, hflag, htask]
    obtain ⟨n, hn⟩ := poll_of_waits hwaits
    exact ⟨n, by rw [step_of_halted hd, hn]⟩

end Sys2Proof.Machine
